-- ==== Sys2Proof/Word.lean ====
section
/-! DEFINITION. The word types of the TS62 and the plainest arithmetic over them (00, Conventions). -/

namespace Sys2Proof

/-- One byte of a port, a link or the sample port. -/
abbrev Byte := BitVec 8

/-- The tag of a switching block, 0 to 65,535 (07, 7.1). -/
abbrev Tag := BitVec 16

/-- A timestamp, a sequence number or the millisecond clock: 32 bits that wrap (02 R14, 09 R156, R157). -/
abbrev Stamp := BitVec 32

/-- "clamp(x, a, b) is the value in [a, b] nearest to x" (00, Integer arithmetic). -/
def clamp (x a b : Int) : Int := max a (min x b)

/-- A counter that saturates at its maximum (00, Counters). -/
def satInc (top n : Nat) : Nat := if n < top then n + 1 else n

end Sys2Proof
end

