-- ==== Sys2Proof/Syntax.lean ====
section
/-! DEFINITION. The commands of the TS62: one constructor of `Instr` for each row of spec/opcode_table.json,
and the names their operands are made of. -/

namespace Sys2Proof

/-- A feeder, and the section it supplies: 0 stands for feeder 1 (00, Numbering). -/
abbrev Feeder := Fin 6

/-- A thyristor gate: 0 to 5 are A1 to A6, 6 to 11 are B1 to B6 (03, 3.9). -/
abbrev Gate := Fin 12

/-- A link-section index (00, Numbering). -/
abbrev Index := Fin 4

/-- The two command ports (00, How the part is reached). -/
inductive Port where
  | s | c
  deriving DecidableEq, Repr

/-- The two peer links. -/
inductive Link where
  | u | d
  deriving DecidableEq, Repr

/-- The role of an end of a coordinated section (08, 8.5). -/
inductive Role where
  | lead | follow
  deriving DecidableEq, Repr

/-- The local/remote selector (07 R131). -/
inductive Selector where
  | localPos | remotePos
  deriving DecidableEq, Repr

/-- One index of a STATUS frame, as sent (08, 8.2; 11.4). -/
structure Summary where
  configured : Bool
  role : Role
  closed : Bool
  earthed : Bool
  count : Nat
  deriving DecidableEq, Repr

/-- The levels of the input lines (00, Discrete lines). A position is kept as "shows closed", EOFF as "asserted",
a select line as "low". -/
structure Inputs where
  breaker : Vector Bool 6
  earth : Vector Bool 6
  acClosed : Bool
  eoff : Bool
  selector : Selector
  selectS : Bool
  selectC : Bool
  deriving DecidableEq, Repr

/-- What the receiver of a link collected between two idle periods (08 R135): the bytes, and whether one of them
had a line error. -/
structure Reception where
  lineError : Bool
  bytes : List Byte
  deriving DecidableEq, Repr

/-- A valid peer frame, by its fields (08, 8.2). -/
inductive PeerFrame where
  | status (summaries : Vector Summary 4)
  | tripReq (i : Index) (id : Byte)
  | tripAck (i : Index) (id : Byte)
  | restored (i : Index)
  | lockout (i : Index)
  | blockAdd (i : Index) (tag : Tag)
  | blockDel (i : Index) (tag : Tag)
  | blockSet (i : Index) (tags : List Tag)
  deriving DecidableEq, Repr

/-- The commands: one constructor for each row of spec/opcode_table.json, in the table's order. Parameters of port
commands are the request's bytes as received (11 R187). -/
inductive Instr where
  | powerOnReset (inp : Inputs)
  | warmReset (inp : Inputs)
  | sampleSetArrival (bytes : List Byte)
  | sampleWatchdogExpiry
  | blindTimerExpiry
  /-- A rising edge on the zero-crossing input, with the width of its pulse, which has no effect (02 R14). -/
  | crossing (width : Nat)
  | acquireDeadlineExpiry
  | lockedDeadlineExpiry
  | holdoverDeadlineExpiry
  | gatePulseStart (g : Gate)
  | gatePulseEnd (g : Gate)
  | gateFeedback (g : Gate)
  | startRectifier (p : Port)
  | stopRectifier (p : Port)
  | restartWindowExpiry
  | resetLockoutRectifier (p : Port)
  | resetLockoutFeeder (p : Port) (target : Byte)
  | acBreakerOpen
  | acBreakerClosed
  | eoffAsserted
  | eoffReleased
  | gateTest (p : Port) (repeats skip : Byte)
  | gateTestStepEnd
  | breakerPositionOpen (f : Feeder)
  | breakerPositionClosed (f : Feeder)
  | deadTimeExpiry (f : Feeder)
  | closeSupervisionExpiry (f : Feeder)
  | reclaimExpiry (f : Feeder)
  | followWaitExpiry (f : Feeder)
  | tripSupervisionExpiry (f : Feeder)
  | closeFeeder (p : Port) (feeder : Byte)
  | openFeeder (p : Port) (feeder : Byte)
  | lineTestExpiry
  | placeBlock (p : Port) (sec : Byte) (tag : Tag) (openFirst : Byte)
  | removeBlock (p : Port) (sec : Byte) (tag : Tag)
  | earthSwitchClosed (f : Feeder)
  | earthSwitchOpened (f : Feeder)
  | selectorChange (pos : Selector)
  | releaseHold (p : Port)
  | status (l : Link) (summaries : Vector Summary 4)
  | tripReq (l : Link) (i : Index) (id : Byte)
  | tripAck (l : Link) (i : Index) (id : Byte)
  | restored (l : Link) (i : Index)
  | lockout (l : Link) (i : Index)
  | blockAdd (l : Link) (i : Index) (tag : Tag)
  | blockDel (l : Link) (i : Index) (tag : Tag)
  | blockSet (l : Link) (i : Index) (tags : List Tag)
  | badFrame (l : Link) (rx : Reception)
  | frameTransmit (l : Link)
  | heartbeatExpiry (l : Link)
  | lossTimerExpiry (l : Link)
  | refreshExpiry (l : Link)
  | retryExpiry (l : Link) (i : Index)
  | resetSilenceEnd (l : Link)
  | attachJournal (p : Port)
  | detachJournal (p : Port)
  | fetchEvent (p : Port)
  | setAttentionMask (p : Port) (mask : Byte)
  | readJournalState (p : Port)
  | readRecord (p : Port) (slot first count : Byte)
  | selectLow (p : Port) (bytes : List Byte)
  | selectRaised (p : Port)
  | unknownCommand (p : Port) (code : Byte)
  | readStatus (p : Port)
  | readConditions (p : Port)
  | readMeasurements (p : Port)
  | readFeeder (p : Port) (feeder : Byte)
  | readSection (p : Port) (sec : Byte)
  | readRectifier (p : Port)
  | readTracker (p : Port)
  | readLink (p : Port) (link : Byte)
  | readSetting (p : Port) (id : Byte)
  | writeSetting (p : Port) (id : Byte) (value : BitVec 32)
  | gateTestDriveEnd
  deriving DecidableEq, Repr

end Sys2Proof
end

