-- ==== Sys2Proof/WellFormed.lean ====
section
/-! DEFINITION. Which operands a row of the table can carry. Only a few rows restrict them beyond their types. -/

namespace Sys2Proof

/-- A local block count is 0 to 4 (08, 8.2). -/
def Summary.wellFormed (x : Summary) : Bool := decide (x.count ≤ 4)

/-- A STATUS count above 4 or a BLOCK_SET count above 5 makes a frame bad (08 R135). -/
def PeerFrame.wellFormed : PeerFrame → Bool
  | .status v => v.toList.all Summary.wellFormed
  | .blockSet _ ts => decide (ts.length ≤ 5)
  | .tripReq _ _ | .tripAck _ _ | .restored _ | .lockout _ | .blockAdd _ _ | .blockDel _ _ => true

/-- The codes of 11.3 that name a command. -/
def knownCodes : List Byte :=
  [0x01, 0x02, 0x03, 0x04, 0x05, 0x06, 0x07, 0x08, 0x09, 0x0A, 0x0B, 0x10, 0x11, 0x12, 0x13, 0x20, 0x21, 0x22, 0x23,
   0x24, 0x30, 0x31, 0x32, 0x33, 0x40]

/-- The operands can stand in the command. RESET_LOCKOUT_FEEDER does not carry target 0, which names the rectifier
(11.3); UNKNOWN_COMMAND carries no code that names a command (10 R174); the frame rows carry the fields of a valid
frame. The bytes of SELECT_LOW and BAD_FRAME are judged by their meanings (log 7, log 27). -/
def Instr.wellFormed : Instr → Bool
  | .resetLockoutFeeder _ target => target != 0
  | .unknownCommand _ code => !knownCodes.contains code
  | .status _ v => (PeerFrame.status v).wellFormed
  | .blockSet _ i ts => (PeerFrame.blockSet i ts).wellFormed
  | .powerOnReset _ => true
  | .warmReset _ => true
  | .sampleSetArrival _ => true
  | .sampleWatchdogExpiry => true
  | .blindTimerExpiry => true
  | .crossing _ => true
  | .acquireDeadlineExpiry => true
  | .lockedDeadlineExpiry => true
  | .holdoverDeadlineExpiry => true
  | .gatePulseStart _ => true
  | .gatePulseEnd _ => true
  | .gateFeedback _ => true
  | .startRectifier _ => true
  | .stopRectifier _ => true
  | .restartWindowExpiry => true
  | .resetLockoutRectifier _ => true
  | .acBreakerOpen => true
  | .acBreakerClosed => true
  | .eoffAsserted => true
  | .eoffReleased => true
  | .gateTest _ _ _ => true
  | .gateTestStepEnd => true
  | .breakerPositionOpen _ => true
  | .breakerPositionClosed _ => true
  | .deadTimeExpiry _ => true
  | .closeSupervisionExpiry _ => true
  | .reclaimExpiry _ => true
  | .followWaitExpiry _ => true
  | .tripSupervisionExpiry _ => true
  | .closeFeeder _ _ => true
  | .openFeeder _ _ => true
  | .lineTestExpiry => true
  | .placeBlock _ _ _ _ => true
  | .removeBlock _ _ _ => true
  | .earthSwitchClosed _ => true
  | .earthSwitchOpened _ => true
  | .selectorChange _ => true
  | .releaseHold _ => true
  | .tripReq _ _ _ => true
  | .tripAck _ _ _ => true
  | .restored _ _ => true
  | .lockout _ _ => true
  | .blockAdd _ _ _ => true
  | .blockDel _ _ _ => true
  | .badFrame _ _ => true
  | .frameTransmit _ => true
  | .heartbeatExpiry _ => true
  | .lossTimerExpiry _ => true
  | .refreshExpiry _ => true
  | .retryExpiry _ _ => true
  | .resetSilenceEnd _ => true
  | .attachJournal _ => true
  | .detachJournal _ => true
  | .fetchEvent _ => true
  | .setAttentionMask _ _ => true
  | .readJournalState _ => true
  | .readRecord _ _ _ _ => true
  | .selectLow _ _ => true
  | .selectRaised _ => true
  | .readStatus _ => true
  | .readConditions _ => true
  | .readMeasurements _ => true
  | .readFeeder _ _ => true
  | .readSection _ _ => true
  | .readRectifier _ => true
  | .readTracker _ => true
  | .readLink _ _ => true
  | .readSetting _ _ => true
  | .writeSetting _ _ _ => true
  | .gateTestDriveEnd => true

end Sys2Proof
end

