-- ==== Sys2Proof/Decode.lean ====
section
/-! DEFINITION. The byte layouts of what reaches the part: port requests (10 R173, R174; 11.3, R187), peer frames with
their check word (08 R135, R136; 11.4, R188), each with its encoder; and `decodeTableWord` over the rows that give
bits (none does). -/

namespace Sys2Proof

/-- No row of spec/opcode_table.json gives bits, so no word spells a command. -/
def decodeTableWord (_nbits _w : Nat) : Option Instr := none

/-! ## Port requests -/

/-- The request length of a code, counted with the code byte; "Every other code names no command and has length 1"
(11.3). -/
def requestLength (code : Byte) : Nat :=
  if code = 0x04 ∨ code = 0x05 ∨ code = 0x08 ∨ code = 0x09 ∨ code = 0x13 ∨ code = 0x20 ∨ code = 0x22 ∨ code = 0x30 then 2
  else if code = 0x24 then 3
  else if code = 0x0B ∨ code = 0x33 then 4
  else if code = 0x32 then 5
  else if code = 0x40 then 6
  else 1

/-- The command of a request of one byte; a code that names no command is answered UNKNOWN_COMMAND (10 R174). -/
def decodeCode (p : Port) (code : Byte) : Instr :=
  if code = 0x01 then .readStatus p
  else if code = 0x02 then .readConditions p
  else if code = 0x03 then .readMeasurements p
  else if code = 0x06 then .readRectifier p
  else if code = 0x07 then .readTracker p
  else if code = 0x0A then .readJournalState p
  else if code = 0x10 then .attachJournal p
  else if code = 0x11 then .detachJournal p
  else if code = 0x12 then .fetchEvent p
  else if code = 0x21 then .startRectifier p
  else if code = 0x23 then .releaseHold p
  else if code = 0x31 then .stopRectifier p
  else .unknownCommand p code

/-- The command of a request of two bytes. -/
def decodePair (p : Port) (code a : Byte) : Option Instr :=
  if code = 0x04 then some (.readFeeder p a)
  else if code = 0x05 then some (.readSection p a)
  else if code = 0x08 then some (.readLink p a)
  else if code = 0x09 then some (.readSetting p a)
  else if code = 0x13 then some (.setAttentionMask p a)
  else if code = 0x20 then some (.closeFeeder p a)
  else if code = 0x22 then some (if a = 0 then .resetLockoutRectifier p else .resetLockoutFeeder p a)
  else if code = 0x30 then some (.openFeeder p a)
  else none

/-- The command that a complete request spells: "A tag is the two bytes read as 0 to 65,535, and a setting value is the
four bytes read as a signed number" (11 R187). -/
def decodeRequest (p : Port) : List Byte → Option Instr
  | [code] => if requestLength code = 1 then some (decodeCode p code) else none
  | [code, a] => decodePair p code a
  | [code, a, b] => if code = 0x24 then some (.gateTest p a b) else none
  | [code, a, b, c] =>
    if code = 0x0B then some (.readRecord p a b c)
    else if code = 0x33 then some (.removeBlock p a (b ++ c))
    else none
  | [code, a, b, c, d] => if code = 0x32 then some (.placeBlock p a (b ++ c) d) else none
  | [code, a, b, c, d, e] => if code = 0x40 then some (.writeSetting p a (b ++ c ++ d ++ e)) else none
  | _ => none

/-- The high and the low byte of a tag. -/
def tagBytes (t : Tag) : List Byte := [t.extractLsb' 8 8, t.extractLsb' 0 8]

/-- The port and the bytes of a command's request; none for what is no port command (11.3). -/
def encodeRequest : Instr → Option (Port × List Byte)
  | .readStatus p => some (p, [0x01])
  | .readConditions p => some (p, [0x02])
  | .readMeasurements p => some (p, [0x03])
  | .readFeeder p a => some (p, [0x04, a])
  | .readSection p a => some (p, [0x05, a])
  | .readRectifier p => some (p, [0x06])
  | .readTracker p => some (p, [0x07])
  | .readLink p a => some (p, [0x08, a])
  | .readSetting p a => some (p, [0x09, a])
  | .readJournalState p => some (p, [0x0A])
  | .readRecord p a b c => some (p, [0x0B, a, b, c])
  | .attachJournal p => some (p, [0x10])
  | .detachJournal p => some (p, [0x11])
  | .fetchEvent p => some (p, [0x12])
  | .setAttentionMask p a => some (p, [0x13, a])
  | .closeFeeder p a => some (p, [0x20, a])
  | .startRectifier p => some (p, [0x21])
  | .resetLockoutRectifier p => some (p, [0x22, 0])
  | .resetLockoutFeeder p a => some (p, [0x22, a])
  | .releaseHold p => some (p, [0x23])
  | .gateTest p a b => some (p, [0x24, a, b])
  | .openFeeder p a => some (p, [0x30, a])
  | .stopRectifier p => some (p, [0x31])
  | .placeBlock p a t b => some (p, [0x32, a] ++ tagBytes t ++ [b])
  | .removeBlock p a t => some (p, [0x33, a] ++ tagBytes t)
  | .writeSetting p a v =>
    some (p, [0x40, a, v.extractLsb' 24 8, v.extractLsb' 16 8, v.extractLsb' 8 8, v.extractLsb' 0 8])
  | .unknownCommand p code => some (p, [code])
  | _ => none

/-! ## The check word of a peer frame (08 R136) -/

/-- One bit: "combined with the register's top bit, the register is shifted left by one, and the polynomial's low part,
0x1021, is added modulo 2 when the combined bit was 1" (08 R136). -/
def crcBit (r : BitVec 16) (bit : Bool) : BitVec 16 :=
  if bit != r.msb then (r <<< 1) ^^^ 0x1021 else r <<< 1

/-- One byte, most significant bit first. -/
def crcByte (r : BitVec 16) (b : Byte) : BitVec 16 :=
  [7, 6, 5, 4, 3, 2, 1, 0].foldl (fun r i => crcBit r (b.getLsbD i)) r

/-- The check word of a kind and payload; the register starts at 0xFFFF. -/
def crc16 (bytes : List Byte) : BitVec 16 := bytes.foldl crcByte 0xFFFF

/-- A frame: kind and payload, then the check word high byte first. -/
def withCheck (bytes : List Byte) : List Byte := bytes ++ tagBytes (crc16 bytes)

/-! ## Peer frames -/

/-- The summary byte of an index (11.4). -/
def Summary.byte (x : Summary) : Byte :=
  (if x.configured then 0x01 else 0) ||| (if x.role = .follow then 0x02 else 0) ||| (if x.closed then 0x04 else 0)
    ||| (if x.earthed then 0x08 else 0) ||| (BitVec.ofNat 8 x.count <<< 4)

/-- A summary byte as received; bit 7 is disregarded (11 R188). -/
def summaryOf (b : Byte) : Summary where
  configured := b.getLsbD 0
  role := if b.getLsbD 1 then .follow else .lead
  closed := b.getLsbD 2
  earthed := b.getLsbD 3
  count := (b.extractLsb' 4 3).toNat

/-- The kind and payload of a frame (11.4). -/
def PeerFrame.body : PeerFrame → List Byte
  | .status v => 0x01 :: v.toList.map Summary.byte
  | .tripReq i id => [0x02, BitVec.ofNat 8 i.val, id]
  | .tripAck i id => [0x03, BitVec.ofNat 8 i.val, id]
  | .restored i => [0x04, BitVec.ofNat 8 i.val]
  | .lockout i => [0x05, BitVec.ofNat 8 i.val]
  | .blockAdd i t => [0x06, BitVec.ofNat 8 i.val] ++ tagBytes t
  | .blockDel i t => [0x07, BitVec.ofNat 8 i.val] ++ tagBytes t
  | .blockSet i ts => [0x08, BitVec.ofNat 8 i.val, BitVec.ofNat 8 ts.length] ++ (ts.map tagBytes).flatten

/-- The bytes of a frame. -/
def encodeFrame (x : PeerFrame) : List Byte := withCheck x.body

/-- An index byte: "bad when an index is above 3" (08 R135). -/
def indexOf (b : Byte) : Option Index := if h : b.toNat < 4 then some ⟨b.toNat, h⟩ else none

/-- Tags of two bytes each; none where a byte is left over. -/
def tagsOf : List Byte → Option (List Tag)
  | [] => some []
  | hi :: lo :: rest => (tagsOf rest).map fun ts => (hi ++ lo) :: ts
  | [_] => none

/-- The frame of a kind and payload: kind, length, index and count checks of 08 R135. -/
def parseBody : List Byte → Option PeerFrame
  | [kind, a] =>
    if kind = 0x04 then (indexOf a).map .restored
    else if kind = 0x05 then (indexOf a).map .lockout
    else none
  | [kind, a, b] =>
    if kind = 0x02 then (indexOf a).map fun i => .tripReq i b
    else if kind = 0x03 then (indexOf a).map fun i => .tripAck i b
    else if kind = 0x08 ∧ b = 0 then (indexOf a).map fun i => .blockSet i []
    else none
  | kind :: a :: b :: c :: rest =>
    if kind = 0x01 then
      match rest with
      | [d] =>
        let v : Vector Summary 4 := #v[summaryOf a, summaryOf b, summaryOf c, summaryOf d]
        if (PeerFrame.status v).wellFormed then some (.status v) else none
      | _ => none
    else if kind = 0x06 then
      match rest with
      | [] => (indexOf a).map fun i => .blockAdd i (b ++ c)
      | _ => none
    else if kind = 0x07 then
      match rest with
      | [] => (indexOf a).map fun i => .blockDel i (b ++ c)
      | _ => none
    else if kind = 0x08 ∧ b.toNat ≤ 5 then
      match indexOf a, tagsOf (c :: rest) with
      | some i, some ts => if ts.length = b.toNat then some (.blockSet i ts) else none
      | _, _ => none
    else none
  | _ => none

/-- The judgement of a reception: the frame, or none where it is *bad* by a line error, its kind, its length, its
check word or a field (08 R135). -/
def judgeFrame (rx : Reception) : Option PeerFrame :=
  if rx.lineError ∨ rx.bytes.length < 2 then none
  else
    let body := rx.bytes.take (rx.bytes.length - 2)
    if rx.bytes = withCheck body then parseBody body else none

/-- The row of the table that a valid frame is. -/
def PeerFrame.command (l : Link) : PeerFrame → Instr
  | .status v => .status l v
  | .tripReq i id => .tripReq l i id
  | .tripAck i id => .tripAck l i id
  | .restored i => .restored l i
  | .lockout i => .lockout l i
  | .blockAdd i t => .blockAdd l i t
  | .blockDel i t => .blockDel l i t
  | .blockSet i ts => .blockSet l i ts

/-- The command that a reception on a link is: a valid frame's row, or BAD_FRAME. -/
def decodeFrame (l : Link) (rx : Reception) : Instr :=
  match judgeFrame rx with
  | some x => x.command l
  | none => .badFrame l rx

end Sys2Proof
end

