-- ==== Sys2Proof/Config.lean ====
section
/-! DEFINITION. What the spec fixes for every TS62 (durations, depths, bounds) and the free values. -/

namespace Sys2Proof.Config

/-- Reference ticks of 0.1 µs in a millisecond (00, Mains time). -/
def ticksPerMs : Nat := 10000

/-- Reference ticks in a second. -/
def ticksPerSecond : Nat := 10000000

/-- The sample watchdog, 1 ms (01 R6). -/
def watchdogTicks : Nat := ticksPerMs

/-- The retry timer of an intertrip, 20 ms (08 R146). -/
def retryTicks : Nat := 20 * ticksPerMs

/-- The heartbeat, 10 ms (08 R138). -/
def heartbeatTicks : Nat := 10 * ticksPerMs

/-- The refresh timer, 1,000 ms (08 R152). -/
def refreshTicks : Nat := 1000 * ticksPerMs

/-- The reset silence, 520 ms (08 R155). -/
def silenceTicks : Nat := 520 * ticksPerMs

/-- One step of the gate test, 1 ms, and the driven half of it (03 R51). -/
def gateStepTicks : Nat := ticksPerMs

/-- The driven part of a gate test step, 0.5 ms (03 R51). -/
def gateDriveTicks : Nat := 5000

/-- Entries of a ring (01 R11). -/
def ringDepth : Nat := 64

/-- Entries of the journal (09 R158). -/
def journalDepth : Nat := 256

/-- Frames of a transmit queue (08 R137). -/
def queueDepth : Nat := 16

/-- Entries of a local or of a peer block list (07 R117, R118). -/
def blockDepth : Nat := 4

/-- Post pairs that complete a fault record (09 R168). -/
def postPairs : Nat := 192

/-- Invalid samples in a row that make a feeder current channel FAILED (01 R4). -/
def failedRun : Nat := 16

/-- The maximum of a statistics counter (00, Counters). -/
def counterTop : Nat := 65535

/-- The shortest and longest period estimate, in ticks (02, 2.2). -/
def periodMin : Int := 181818

/-- The longest period estimate, in ticks (02, 2.2). -/
def periodMax : Int := 222222

/-- A crossing nearer to the reference time than this is a glitch (02 R15). -/
def glitchTicks : Nat := 20000

/-- FREE VALUE (log 8): whether a time left of so many ticks that is not a whole number of its unit (of the first
number's ticks) is returned rounded up (true) or down (false). 11 R187 states "Timer values are the time left in the
timer's own unit" and no rounding. -/
opaque timeLeftRoundsUp : Nat → Nat → Bool

/-- FREE VALUE (log 30): the value of a SELF_TRIP entry of a feeder whose channel has never read as valid, for each
value of the sequence counter. 05 R82 states "the held current of the newest delivered set", which is absent then. -/
opaque unstatedCurrent : BitVec 32 → BitVec 32

end Sys2Proof.Config
end

