-- ==== Sys2Proof/Machine/Settings.lean ====
section
/-! DEFINITION. The settings store (10 R180 to R183): the settings with their ranges and defaults, and how a
unit reads one at the moment of use. -/

namespace Sys2Proof.Machine

/-- The global settings, in the order of their identifiers 1 to 33 (10 R180). -/
inductive GlobalSetting where
  | vSet | gain | slew | startSlew | alphaMin | alphaMax
  | alphaInv | phaseRef | iLim | lockWindow | holdWindow | maxAdjust
  | holdoverMax | autoRestart | restartWindow | absOn | absOff | absShift
  | absHot | busDiffLevel | busDiffCount | busDiffAction | blindTime | blindAction
  | ltSupplyMin | liveLevel | ltResistor | ltMinResistance | ltTime | tripTimeMax
  | closeTimeMax | linkLossTime | gateTestRequired
  deriving DecidableEq, Repr

/-- The settings of a feeder, in the order of their offsets 0 to 23 (10 R180). -/
inductive FeederSetting where
  | instLevel | instCount | instAction | rorStart | rorCont | rorDelta
  | rorMinLen | rorMaxLen | rorAction | closeBlank | thermalShift | thermalWarn
  | thermalTrip | thermalReset | thermalAction | recloseMax | deadTime1 | deadTime2
  | deadTime3 | reclaimTime | followWait | link | index | role
  deriving DecidableEq, Repr

/-- The place of a global setting: its identifier less one. -/
def GlobalSetting.idx : GlobalSetting → Fin 33
  | .vSet => 0
  | .gain => 1
  | .slew => 2
  | .startSlew => 3
  | .alphaMin => 4
  | .alphaMax => 5
  | .alphaInv => 6
  | .phaseRef => 7
  | .iLim => 8
  | .lockWindow => 9
  | .holdWindow => 10
  | .maxAdjust => 11
  | .holdoverMax => 12
  | .autoRestart => 13
  | .restartWindow => 14
  | .absOn => 15
  | .absOff => 16
  | .absShift => 17
  | .absHot => 18
  | .busDiffLevel => 19
  | .busDiffCount => 20
  | .busDiffAction => 21
  | .blindTime => 22
  | .blindAction => 23
  | .ltSupplyMin => 24
  | .liveLevel => 25
  | .ltResistor => 26
  | .ltMinResistance => 27
  | .ltTime => 28
  | .tripTimeMax => 29
  | .closeTimeMax => 30
  | .linkLossTime => 31
  | .gateTestRequired => 32

/-- The offset of a feeder setting. -/
def FeederSetting.idx : FeederSetting → Fin 24
  | .instLevel => 0
  | .instCount => 1
  | .instAction => 2
  | .rorStart => 3
  | .rorCont => 4
  | .rorDelta => 5
  | .rorMinLen => 6
  | .rorMaxLen => 7
  | .rorAction => 8
  | .closeBlank => 9
  | .thermalShift => 10
  | .thermalWarn => 11
  | .thermalTrip => 12
  | .thermalReset => 13
  | .thermalAction => 14
  | .recloseMax => 15
  | .deadTime1 => 16
  | .deadTime2 => 17
  | .deadTime3 => 18
  | .reclaimTime => 19
  | .followWait => 20
  | .link => 21
  | .index => 22
  | .role => 23

/-- Range, default, and whether the setting is enumerated (10 R180, R181 step 2). -/
structure SettingRow where
  lo : Int
  hi : Int
  dflt : Int
  enumerated : Bool
  deriving DecidableEq, Repr

/-- The table of the global settings (10 R180), part 1. -/
def globalRowsPart1 : List SettingRow :=
  [ ⟨600, 900, 825, false⟩  -- V_set
  , ⟨0, 255, 8, false⟩  -- K
  , ⟨1, 200, 20, false⟩  -- S
  , ⟨1, 50, 5, false⟩  -- start_slew
  , ⟨50, 600, 100, false⟩  -- α_min
  , ⟨50, 1200, 900, false⟩  -- α_max
  , ⟨900, 1650, 1500, false⟩  -- α_inv
  , ⟨0, 3599, 0, false⟩  -- phase_ref
  , ⟨1000, 20000, 12000, false⟩  -- I_lim
  , ⟨10, 5000, 400, false⟩  -- lock_window
  , ⟨10, 20000, 2000, false⟩  -- hold_window
  , ⟨1, 2000, 250, false⟩  -- max_adjust
  ]

/-- The table of the global settings (10 R180), part 2. -/
def globalRowsPart2 : List SettingRow :=
  [ ⟨0, 10, 3, false⟩  -- holdover_max
  , ⟨0, 1, 1, false⟩  -- auto_restart
  , ⟨100, 10000, 2000, false⟩  -- restart_window
  , ⟨800, 1000, 900, false⟩  -- abs_on
  , ⟨700, 995, 880, false⟩  -- abs_off
  , ⟨8, 24, 18, false⟩  -- abs_shift
  , ⟨1000, 250000, 100000, false⟩  -- abs_hot
  , ⟨500, 20000, 3000, false⟩  -- bus_diff_level
  , ⟨1, 20, 5, false⟩  -- bus_diff_count
  , ⟨0, 2, 0, true⟩  -- bus_diff_action
  , ⟨2, 500, 20, false⟩  -- blind_time
  , ⟨0, 1, 0, true⟩  -- blind_action
  ]

/-- The table of the global settings (10 R180), part 3. -/
def globalRowsPart3 : List SettingRow :=
  [ ⟨300, 900, 500, false⟩  -- lt_supply_min
  , ⟨100, 900, 400, false⟩  -- live_level
  , ⟨100, 5000, 1200, false⟩  -- lt_resistor
  , ⟨5, 1000, 50, false⟩  -- lt_min_resistance
  , ⟨50, 2000, 200, false⟩  -- lt_time
  , ⟨20, 500, 80, false⟩  -- trip_time_max
  , ⟨50, 1000, 150, false⟩  -- close_time_max
  , ⟨15, 500, 35, false⟩  -- link_loss_time
  , ⟨0, 1, 0, false⟩  -- gate_test_required
  ]

/-- The table of the global settings (10 R180). -/
def globalRows : List SettingRow := globalRowsPart1 ++ globalRowsPart2 ++ globalRowsPart3

/-- The table of the feeder settings (10 R180), part 1. -/
def feederRowsPart1 : List SettingRow :=
  [ ⟨1000, 20000, 9000, false⟩  -- inst_level
  , ⟨1, 4, 2, false⟩  -- inst_count
  , ⟨0, 2, 0, true⟩  -- inst_action
  , ⟨5, 2000, 60, false⟩  -- ror_start
  , ⟨1, 2000, 20, false⟩  -- ror_cont
  , ⟨200, 20000, 2500, false⟩  -- ror_delta
  , ⟨1, 100, 10, false⟩  -- ror_min_len
  , ⟨1, 2000, 250, false⟩  -- ror_max_len
  , ⟨0, 2, 0, true⟩  -- ror_action
  , ⟨0, 2000, 500, false⟩  -- close_blank
  , ⟨8, 24, 20, false⟩  -- thermal_shift
  , ⟨0, 250000, 32000, false⟩  -- thermal_warn
  ]

/-- The table of the feeder settings (10 R180), part 2. -/
def feederRowsPart2 : List SettingRow :=
  [ ⟨0, 250000, 39000, false⟩  -- thermal_trip
  , ⟨0, 250000, 20000, false⟩  -- thermal_reset
  , ⟨0, 2, 0, true⟩  -- thermal_action
  , ⟨0, 3, 2, false⟩  -- reclose_max
  , ⟨100, 60000, 500, false⟩  -- dead_time_1
  , ⟨100, 60000, 5000, false⟩  -- dead_time_2
  , ⟨100, 60000, 15000, false⟩  -- dead_time_3
  , ⟨1, 300, 30, false⟩  -- reclaim_time
  , ⟨1, 300, 60, false⟩  -- follow_wait
  , ⟨0, 2, 0, true⟩  -- link
  , ⟨0, 3, 0, false⟩  -- index
  , ⟨0, 1, 0, true⟩  -- role
  ]

/-- The table of the feeder settings (10 R180). -/
def feederRows : List SettingRow := feederRowsPart1 ++ feederRowsPart2

/-- The settings store (10, 10.4). -/
structure Settings where
  glob : Vector Int 33
  feeder : Vector (Vector Int 24) 6
  deriving DecidableEq, Repr

/-- What an identifier names (10 R180). -/
inductive SettingName where
  | glob (i : Fin 33)
  | feeder (f : Feeder) (i : Fin 24)
  deriving DecidableEq, Repr

/-- The setting that an identifier names: 1 to 33 global, 64 + 32 × (f − 1) + offset for feeder f; "Identifiers 0,
34 to 63 and above 247, and offsets 24 to 31 within each feeder's block, name no setting" (10 R180). -/
def settingNamed (id : Nat) : Option SettingName :=
  if h : 1 ≤ id ∧ id ≤ 33 then some (.glob ⟨id - 1, by omega⟩)
  else if h : 64 ≤ id ∧ (id - 64) / 32 < 6 ∧ (id - 64) % 32 < 24 then
    some (.feeder ⟨(id - 64) / 32, h.2.1⟩ ⟨(id - 64) % 32, h.2.2⟩)
  else none

/-- The row of the tables for a setting. -/
def settingRow : SettingName → SettingRow
  | .glob i => globalRows.getD i ⟨0, 0, 0, false⟩
  | .feeder _ i => feederRows.getD i ⟨0, 0, 0, false⟩

/-- Every setting at its default (10 R184). -/
def Settings.defaults : Settings where
  glob := Vector.ofFn fun i => (settingRow (.glob i)).dflt
  feeder := Vector.replicate 6 (Vector.ofFn fun i => (settingRow (.feeder 0 i)).dflt)

/-- The present value of a setting. -/
def Settings.value (st : Settings) : SettingName → Int
  | .glob i => st.glob[i]
  | .feeder f i => st.feeder[f][i]

/-- The store with one setting at a new value. -/
def Settings.write (st : Settings) (n : SettingName) (v : Int) : Settings :=
  match n with
  | .glob i => { st with glob := st.glob.set i v }
  | .feeder f i => { st with feeder := st.feeder.set f (st.feeder[f].set i v) }

/-- A global setting at the moment of use. -/
def Settings.g (st : Settings) (n : GlobalSetting) : Int := st.value (.glob n.idx)

/-- A feeder's setting at the moment of use. -/
def Settings.f (st : Settings) (f : Feeder) (n : FeederSetting) : Int := st.value (.feeder f n.idx)

/-- What an action setting asks for (10 R180: TRIP 0, ALARM 1, OFF 2). -/
inductive Action where
  | trip | alarm | off
  deriving DecidableEq, Repr

/-- The action a code names. -/
def actionOf (v : Int) : Action := if v = 0 then .trip else if v = 1 then .alarm else .off

/-! The reconciled values: "Primed names" (00), formed where they are used. -/

/-- α_max′ = max(α_max, α_min) (03 R42). -/
def Settings.alphaMax' (st : Settings) : Int := max (st.g .alphaMax) (st.g .alphaMin)

/-- α_inv′ = max(α_inv, α_max′) (03 R42). -/
def Settings.alphaInv' (st : Settings) : Int := max (st.g .alphaInv) st.alphaMax'

/-- hold′ = max(hold_window, lock_window) (02 R17). -/
def Settings.hold' (st : Settings) : Int := max (st.g .holdWindow) (st.g .lockWindow)

/-- abs_off′ = min(abs_off, abs_on − 5) (03 R49). -/
def Settings.absOff' (st : Settings) : Int := min (st.g .absOff) (st.g .absOn - 5)

/-- cont′ = min(ror_cont, ror_start) (04, 4.1). -/
def Settings.cont' (st : Settings) (f : Feeder) : Int := min (st.f f .rorCont) (st.f f .rorStart)

/-- max′ = max(ror_max_len, ror_min_len) (04, 4.1). -/
def Settings.max' (st : Settings) (f : Feeder) : Int := max (st.f f .rorMaxLen) (st.f f .rorMinLen)

/-- reset′ = min(thermal_reset, thermal_trip) (04, 4.1). -/
def Settings.reset' (st : Settings) (f : Feeder) : Int := min (st.f f .thermalReset) (st.f f .thermalTrip)

/-! The coordination map (08, 8.5). -/

/-- The place of a mapped feeder in the effective coordination map (08 R144). -/
structure Mapping where
  link : Link
  index : Index
  role : Role
  deriving DecidableEq, Repr

/-- All feeders, lowest first. -/
def feeders : List Feeder := [0, 1, 2, 3, 4, 5]

/-- The link, index and role that a feeder's settings name; none where its link is NONE (08 R144). -/
def Settings.names (st : Settings) (f : Feeder) : Option Mapping :=
  let role := if st.f f .role = 1 then Role.follow else Role.lead
  let index := Fin.ofNat 4 (st.f f .index).toNat
  if st.f f .link = 1 then some ⟨.u, index, role⟩
  else if st.f f .link = 2 then some ⟨.d, index, role⟩
  else none

/-- The same link and index (08 R144). -/
def Mapping.samePair (a b : Mapping) : Bool := a.link = b.link && a.index = b.index

/-- The effective coordination map: "the lowest-numbered feeder that names it is mapped to it with its own role. Every
other feeder that names the same pair is unmapped" (08 R144). -/
def Settings.mapping (st : Settings) (f : Feeder) : Option Mapping :=
  match st.names f with
  | none => none
  | some m =>
    if feeders.any fun g => g < f && ((st.names g).any m.samePair) then none else some m

/-- A map loss: forming the map leaves a feeder unmapped that names a link (08 R144). -/
def Settings.mapLoss (st : Settings) : Bool :=
  feeders.any fun f => (st.names f).isSome && (st.mapping f).isNone

end Sys2Proof.Machine
end

