-- ==== Sys2Proof/Machine/State.lean ====
section
/-! DEFINITION. The state of the TS62 as plain data, unit by unit, and the state after the power-on reset. -/

namespace Sys2Proof.Machine

/-! ## Names of states, causes and outcomes -/

/-- The measurement state (01 R6). -/
inductive MeasState where
  | live | blind
  deriving DecidableEq, Repr

/-- The tracker state (02, 2.2). -/
inductive TrackerState where
  | unsync | acquire | locked | holdover
  deriving DecidableEq, Repr

/-- The rectifier state, in the order of the table of 03, 3.1. -/
inductive RectState where
  | stopped | starting | running | shifting | blocked | gateTest
  deriving DecidableEq, Repr

/-- The causes of the rectifier, in the order of the table of 03, 3.1. -/
inductive RectCause where
  | stop | busFault | breakerFail | gateFault | blind | syncLost | eoff | acOpen
  deriving DecidableEq, Repr

/-- Where a shift ends (03, 3.2). -/
inductive ShiftEnd where
  | stopped
  | blocked (c : RectCause)
  deriving DecidableEq, Repr

/-- The result of a gate test (03, 3.9). -/
inductive GateTestResult where
  | none | running | clean | failed | aborted
  deriving DecidableEq, Repr

/-- The state of a feeder context (05, 5.1). -/
inductive FeederState where
  | opened | locked | deadTime | queued | testing | waitPeer | closing | closed | tripping | stuck
  deriving DecidableEq, Repr

/-- The lockout causes (05, 5.1). -/
inductive LockCause where
  | recloseExhausted | sotf | busFault | breakerFail | bfBackup | eoff | blind | peerLockout | peerTimeout
  | peerLost | intertripUnack | mismatch
  deriving DecidableEq, Repr

/-- The trip causes (05, 5.1). -/
inductive TripCause where
  | inst | ror | thermal | selfTrip | intertripRx | command | blockOpen | earth | interlock | blind | busFault
  | bfBackup | eoff
  deriving DecidableEq, Repr

/-- What a context does when the breaker shows open (05, 5.1). -/
inductive Disposition where
  | opened
  | locked (c : LockCause)
  | reclose | follow | thermalWait
  deriving DecidableEq, Repr

/-- Whether a dead time ends on a timer or on the thermal value (05, 5.1). -/
inductive WaitKind where
  | timed | thermal
  deriving DecidableEq, Repr

/-- The outcome of the last line test of a feeder (06 R113). -/
inductive LineResult where
  | none | pass | live | peerClosed | noSupply | lowResistance | invalid | aborted
  deriving DecidableEq, Repr

/-- How a section stands with the neighbour's end (07, 7.1). -/
inductive Coordination where
  | single | coordinated | uncoordinated | mismatch
  deriving DecidableEq, Repr

/-- The link state (08, 8.4). -/
inductive LinkState where
  | down | checking | up
  deriving DecidableEq, Repr

/-- The state of a fault-record slot (09, 9.3). -/
inductive SlotState where
  | free | filling | sealed
  deriving DecidableEq, Repr

/-- The transaction phase of a port (10). -/
inductive Phase where
  | idle | status | request | response
  deriving DecidableEq, Repr

/-- The tracker state changes that SYNC_STATE names (02 R27). -/
inductive SyncChange where
  | firstCrossing | lockComplete | acquireTimeout | slip | missed | missedNoHoldover | recovered | reacquire
  | holdoverExhausted
  deriving DecidableEq, Repr

/-- The cause a RECT_STATE detail names (11 R189). -/
inductive RectNote where
  | none
  | cause (c : RectCause)
  | autoRestart
  deriving DecidableEq, Repr

/-! ## The journal entry -/

/-- The kinds of journal entries, in the order of 11.5. -/
inductive Kind where
  | trip | alarm | thermalWarn | busFault | breakerFail | closed | opened | closeFailed | lockout | lockoutReset
  | lineTest | blockPlaced | blockRemoved | earthed | unearthed | coordination | rectState | syncState | absorber
  | gateTest | measState | linkState | intertripSent | intertripRx | intertripUnack | peerNotice | reset
  | authority | holdReleased | settingChanged | recordMissed
  deriving DecidableEq, Repr

/-- The classes, in the order of 11.2. -/
inductive EventClass where
  | protection | switching | track | supply | link | system
  deriving DecidableEq, Repr

/-- What an entry is about (09, 9.1; 11.5). -/
inductive Subject where
  | none
  | feeder (f : Feeder)
  | sec (f : Feeder)
  | groupA | groupB
  | link (l : Link)
  | port (p : Port)
  deriving DecidableEq, Repr

/-- The particular case of a kind, as the rule that makes the entry names it (11 R189). -/
inductive Detail where
  | none
  | tripCause (c : TripCause)
  | cancelled
  | lockCause (c : LockCause)
  | alarmInst | alarmRor | alarmThermal
  | busTrip | busAlarm
  | closedPort | closedAutomatic | closedUnexpected
  | failedSupervision | failedLineTest | failedIntertrip | failedPort
  | line (r : LineResult)
  | blockPlaced (origin : Port) (active : Bool)
  | blockActivated (origin : Port)
  | placedPeer | placedPeerOverflow
  | blockRemoved (origin : Port)
  | removedPeer | removedPeerOverflow
  | coordination (c : Coordination)
  | rect (st : RectState) (note : RectNote)
  | sync (c : SyncChange)
  | absorberOn | absorberOff | absorberHot | absorberCool
  | gateTest (r : GateTestResult)
  | channelFailed | channelRestored | measBlind | measLive | blindExpired
  | linkState (l : LinkState)
  | linkName (l : Link)
  | unackNoAck | unackLinkLost | unackMapChanged
  | noticeTripAck | noticeRestored | noticeLockout
  | powerOn | warm
  | selector (p : Selector)
  | setting (id : Nat)
  deriving DecidableEq, Repr

/-- A journal entry (09, 9.1). Its class is fixed by its kind. -/
structure Entry where
  seq : Stamp
  time : Stamp
  kind : Kind
  subject : Subject
  detail : Detail
  value : Int
  ref : Option (Fin 8)
  deriving DecidableEq, Repr

/-! ## The units -/

/-- The counters of time (02 R14, 09 R157; log 1). -/
structure Clock where
  /-- The timestamp counter of 0.1 µs ticks. -/
  stamp : Stamp
  /-- The millisecond clock. -/
  ms : Stamp
  /-- Ticks passed in the present millisecond. -/
  sub : Nat
  deriving DecidableEq, Repr

/-- One of the sixteen channels (01 R3). -/
structure Channel where
  latest : Option Int
  invalidRun : Nat
  deriving DecidableEq, Repr

/-- What one delivered set put into the seven rings and the ring index (01 R11, 09 R165; log 26). `none` is the
invalid mark. -/
structure RingRow where
  seq : Byte
  mark : Bool
  currents : Vector (Option Int) 6
  vBus : Option Int
  deriving DecidableEq, Repr

/-- The newest delivered set (05 R82 steps 2 and 3). -/
structure Delivered where
  seq : Byte
  held : Vector (Option Int) 6
  deriving DecidableEq, Repr

/-- The sample unit (01). Channels are in the order of the sample set layout (11.1): i_1 to i_6, v_line 1 to
v_line 6, V_bus, I_A, I_B, I_abs. -/
structure SampleUnit where
  channels : Vector Channel 16
  failed : Vector Bool 6
  expect : Option Byte
  gapCount : Nat
  setErrors : Nat
  state : MeasState
  watchdog : Option Nat
  blindTimer : Option Nat
  /-- The blind_time with which the blind timer was last started (01 R6, R8). -/
  blindLoaded : Int
  resume : Nat
  rings : List RingRow
  newest : Option Delivered
  deriving DecidableEq, Repr

/-- The mains tracker (02, 2.2). -/
structure Tracker where
  state : TrackerState
  period : Option Int
  prev : Option Stamp
  good : Nat
  holdover : Nat
  deadline : Option Stamp
  glitches : Nat
  ranges : Nat
  slips : Nat
  deriving DecidableEq, Repr

/-- A pending pulse of the firing schedule (03 R43). -/
structure Pulse where
  gate : Gate
  start : Stamp
  deriving DecidableEq, Repr

/-- The period under way: its instant, its P and the phase_ref read at the instant (03 R33, R43; log 17). -/
structure Period where
  instant : Stamp
  p : Int
  phaseRef : Int
  deriving DecidableEq, Repr

/-- One gate: its output, its seen mark, whether its pulse began in the present period, its miss count (03 R44,
R45). -/
structure GateUnit where
  driven : Bool
  /-- The end of the pulse train; absent for a gate that is not pulsed by the schedule. -/
  endAt : Option Stamp
  seen : Bool
  fired : Bool
  miss : Nat
  deriving DecidableEq, Repr

/-- The gate test record, and the step under way (03, 3.9). -/
structure GateTest where
  result : GateTestResult
  repeats : Nat
  skip : Nat
  steps : Nat
  errors : Vector Nat 12
  stepTimer : Option Nat
  driveTimer : Option Nat
  /-- The feedback inputs that showed a pulse during the present step. -/
  feedback : Vector Bool 12
  deriving DecidableEq, Repr

/-- The rectifier controller (03). -/
structure Rectifier where
  state : RectState
  cause : Option RectCause
  alpha : Int
  shiftCount : Nat
  shiftEnd : Option ShiftEnd
  restart : Option Nat
  sumV : Int
  countV : Nat
  sumI : Int
  countI : Nat
  noData : Nat
  vMeas : Option Int
  iMeas : Option Int
  schedule : List Pulse
  period : Option Period
  gates : Vector GateUnit 12
  demandBus : Bool
  demandBreaker : Bool
  diffRun : Nat
  alarmStanding : Bool
  absDemand : Bool
  hot : Bool
  fa : Int
  test : GateTest
  deriving DecidableEq, Repr

/-- A rise episode (04, 4.1). -/
structure Episode where
  base : Int
  length : Nat
  rise : Int
  deriving DecidableEq, Repr

/-- The discriminator's items for one feeder (04, 4.1; the six statistics are R75's). -/
structure Disc where
  prev : Option Int
  instRun : Nat
  instAlarm : Bool
  episode : Option Episode
  blank : Nat
  fine : Int
  warn : Bool
  thermalAlarm : Bool
  ended : Nat
  largest : Int
  cancelled : Nat
  instOps : Nat
  rorOps : Nat
  thermalOps : Nat
  deriving DecidableEq, Repr

/-- A feeder context with its five timers, in ticks (05, 5.1). -/
structure Context where
  state : FeederState
  lock : Option LockCause
  lastTrip : Option TripCause
  disp : Option Disposition
  count : Nat
  auto : Bool
  wait : Option WaitKind
  tripTimer : Option Nat
  closeTimer : Option Nat
  deadTimer : Option Nat
  reclaimTimer : Option Nat
  followTimer : Option Nat
  deriving DecidableEq, Repr

/-- The last result record of a feeder (06 R113). `auto` is the kind of close. -/
structure LastResult where
  result : LineResult
  auto : Bool
  vBus : Option Int
  vLine : Option Int
  value : Int
  deriving DecidableEq, Repr

/-- The line test unit (06, 6.1). The unit is TESTING exactly while a feeder is tested, so the tested feeder is the
unit state. -/
structure LineTest where
  tested : Option Feeder
  timer : Option Nat
  queue : List Feeder
  last : Vector LastResult 6
  deriving DecidableEq, Repr

/-- A local block entry (07, 7.1). -/
structure LocalBlock where
  origin : Port
  tag : Tag
  active : Bool
  deriving DecidableEq, Repr

/-- The section's copy of the peer summary (07, 7.1). -/
structure PeerEnd where
  closed : Bool
  earthed : Bool
  deriving DecidableEq, Repr

/-- A section record (07, 7.1). The earthed field is the earth input as it stands (log 25). -/
structure Section where
  mapping : Option Mapping
  coord : Coordination
  blocks : List LocalBlock
  peers : List Tag
  overflow : Bool
  summary : Option PeerEnd
  deriving DecidableEq, Repr

/-- A frame waiting to be sent (08 R137). STATUS and BLOCK_SET are formed when they are sent. -/
inductive Frame where
  | status
  | tripReq (i : Index) (id : Byte)
  | tripAck (i : Index) (id : Byte)
  | restored (i : Index)
  | lockout (i : Index)
  | blockAdd (i : Index) (tag : Tag)
  | blockDel (i : Index) (tag : Tag)
  | blockSet (i : Index)
  deriving DecidableEq, Repr

/-- A TRIP_REQ not yet acknowledged (08, 8.1). -/
structure Outstanding where
  feeder : Feeder
  id : Byte
  sends : Nat
  retry : Nat
  deriving DecidableEq, Repr

/-- What a link controller holds for one index (08, 8.1). -/
structure IndexUnit where
  tripId : Byte
  lastRx : Option Byte
  out : Option Outstanding
  summary : Option Summary
  deriving DecidableEq, Repr

/-- A link controller (08, 8.1). Its timers are in ticks. -/
structure LinkUnit where
  state : LinkState
  silence : Option Nat
  heartbeat : Option Nat
  loss : Option Nat
  refresh : Option Nat
  queue : List Frame
  badFrames : Nat
  ignored : Nat
  dropped : Nat
  idx : Vector IndexUnit 4
  /-- The bytes of the last frame sent, the model's own output (log 24). -/
  sent : List Byte
  deriving DecidableEq, Repr

/-- The event journal (09, 9.1). -/
structure Journal where
  entries : List Entry
  seq : Stamp
  deriving DecidableEq, Repr

/-- A port's reader: it is attached exactly while its cursor is present (09, 9.2). -/
structure Reader where
  cursor : Option Stamp
  lost : Nat
  mask : Byte
  deriving DecidableEq, Repr

/-- A pair of a fault record; `none` is the invalid mark (09, 9.3). -/
structure Pair where
  current : Option Int
  vBus : Option Int
  deriving DecidableEq, Repr

/-- A fault-record slot (09, 9.3). -/
structure Slot where
  state : SlotState
  feeder : Feeder
  cause : TripCause
  trigger : Byte
  pre : Nat
  post : Nat
  pairs : List Pair
  gaps : Nat
  truncated : Bool
  deriving DecidableEq, Repr

/-- A port unit (10). `shown`, the status byte last clocked out, and `response` are the model's own outputs (log 24). -/
structure PortUnit where
  phase : Phase
  buffer : List Byte
  frameError : Bool
  latches : BitVec 16
  shown : Byte
  response : List Byte
  deriving DecidableEq, Repr

/-- One of each for the two ports. -/
structure PerPort (α : Type) where
  s : α
  c : α
  deriving DecidableEq, Repr

/-- One of each for the two links. -/
structure PerLink (α : Type) where
  u : α
  d : α
  deriving DecidableEq, Repr

/-- A trip request of the discriminator, as the sequencer gets it: feeder, cause, value, the number of the set on which it
was decided, and the close-blank count as step 4 read it (04 R72). -/
structure TripCall where
  feeder : Feeder
  cause : TripCause
  value : Int
  trigger : Byte
  blank : Nat
  deriving DecidableEq, Repr

/-- The trip requests on their way from the discriminator to the sequencer, oldest first (04 R55), and the model's own
list of choices: for each time that the sequencer could take a request, whether something else comes first (log 10). -/
structure TripQueue where
  calls : List TripCall
  late : List Bool
  deriving DecidableEq, Repr

/-- The state of the TS62. -/
structure State where
  inputs : Inputs
  time : Clock
  sample : SampleUnit
  tracker : Tracker
  rect : Rectifier
  disc : Vector Disc 6
  trips : TripQueue
  ctx : Vector Context 6
  lineTest : LineTest
  sections : Vector Section 6
  startHold : Bool
  links : PerLink LinkUnit
  journal : Journal
  readers : PerPort Reader
  slots : Vector Slot 8
  ports : PerPort PortUnit
  settings : Settings
  /-- The commands that wait, first in first out. -/
  pending : List Instr
  deriving DecidableEq, Repr

/-- No command of the TS62 stops the part: the spec gives every row of the table an effect on every path, so there is
no reason for a fault. -/
inductive Fault where
  deriving DecidableEq, Repr

/-- The reasons of a refusal. -/
inductive Refusal where
  /-- Raised by an arm of exec whose command has no meaning yet; safe. No arm raises it. -/
  | notModelled (mnemonic : String)
  deriving DecidableEq, Repr

/-- The answer of a meaning. -/
abbrev Answer := Host.Outcome State Fault Refusal

/-! ## The reset values -/

/-- The input lines at the reset that the model starts from: every position open, EOFF released, LOCAL, the select
lines raised (DESIGN CHOICE, log 4). -/
def Inputs.quiet : Inputs where
  breaker := Vector.replicate 6 false
  earth := Vector.replicate 6 false
  acClosed := false
  eoff := false
  selector := .localPos
  selectS := false
  selectC := false

/-- The sample unit after either reset, with the blind_time that its timer is loaded with (01 R13). -/
def SampleUnit.reset (blindTime : Int) : SampleUnit where
  channels := Vector.replicate 16 ⟨none, 0⟩
  failed := Vector.replicate 6 false
  expect := none
  gapCount := 0
  setErrors := 0
  state := .blind
  watchdog := none
  blindTimer := some (blindTime.toNat * Config.ticksPerMs)
  blindLoaded := blindTime
  resume := 0
  rings := []
  newest := none

/-- The tracker after a reset, with P absent or kept (02 R29). -/
def Tracker.reset (period : Option Int) : Tracker where
  state := .unsync
  period := period
  prev := none
  good := 0
  holdover := 0
  deadline := none
  glitches := 0
  ranges := 0
  slips := 0

/-- A gate that is released, with its marks clear and its miss count 0 (03 R54). -/
def GateUnit.reset : GateUnit := ⟨false, none, false, false, 0⟩

/-- The gate test record after a reset (03 R54; repeats, skip gate and steps done: DESIGN CHOICE, log 28). -/
def GateTest.reset : GateTest where
  result := .none
  repeats := 0
  skip := 0
  steps := 0
  errors := Vector.replicate 12 0
  stepTimer := none
  driveTimer := none
  feedback := Vector.replicate 12 false

/-- The rectifier controller after a reset: α is α_max′; FA and the hot flag are 0 and clear, or kept (03 R54). -/
def Rectifier.reset (alpha fa : Int) (hot : Bool) : Rectifier where
  state := .stopped
  cause := none
  alpha := alpha
  shiftCount := 0
  shiftEnd := none
  restart := none
  sumV := 0
  countV := 0
  sumI := 0
  countI := 0
  noData := 0
  vMeas := none
  iMeas := none
  schedule := []
  period := none
  gates := Vector.replicate 12 GateUnit.reset
  demandBus := false
  demandBreaker := false
  diffRun := 0
  alarmStanding := false
  absDemand := false
  hot := hot
  fa := fa
  test := GateTest.reset

/-- The discriminator's items after a reset, with F 0 or kept (04 R77). -/
def Disc.reset (fine : Int) : Disc where
  prev := none
  instRun := 0
  instAlarm := false
  episode := none
  blank := 0
  fine := fine
  warn := false
  thermalAlarm := false
  ended := 0
  largest := 0
  cancelled := 0
  instOps := 0
  rorOps := 0
  thermalOps := 0

/-- A context after a reset: CLOSED or OPEN by the breaker position (05 R103). -/
def Context.reset (closed : Bool) : Context where
  state := if closed then .closed else .opened
  lock := none
  lastTrip := none
  disp := none
  count := 0
  auto := false
  wait := none
  tripTimer := none
  closeTimer := none
  deadTimer := none
  reclaimTimer := none
  followTimer := none

/-- The line test unit after a reset (06 R116; kind of close and value of the last results: DESIGN CHOICE, log 28). -/
def LineTest.reset : LineTest where
  tested := none
  timer := none
  queue := []
  last := Vector.replicate 6 ⟨.none, false, none, none, 0⟩

/-- A section after a reset: the lists are empty or kept (07 R134). -/
def Section.reset (mapping : Option Mapping) (blocks : List LocalBlock) (peers : List Tag) (overflow : Bool) :
    Section where
  mapping := mapping
  coord := if mapping.isSome then .uncoordinated else .single
  blocks := blocks
  peers := peers
  overflow := overflow
  summary := none

/-- A link controller after a reset (08 R155). -/
def LinkUnit.reset : LinkUnit where
  state := .down
  silence := some Config.silenceTicks
  heartbeat := none
  loss := none
  refresh := none
  queue := []
  badFrames := 0
  ignored := 0
  dropped := 0
  idx := Vector.replicate 4 ⟨0, none, none, none⟩
  sent := []

/-- The journal after a reset: the RESET entry of sequence number 0 and time 0 (09 R172). -/
def Journal.reset (kind : Detail) : Journal where
  entries := [⟨0, 0, .reset, .none, kind, 0, none⟩]
  seq := 1

/-- A reader after a reset: detached, with all six classes in its mask (09 R172). -/
def Reader.reset : Reader := ⟨none, 0, 0x3F⟩

/-- A FREE slot, its fields discarded (09 R170, R172). -/
def Slot.freed : Slot := ⟨.free, 0, .inst, 0, 0, 0, [], 0, false⟩

/-- A port unit after a reset, with its fresh latch word (10 R185, R186). -/
def PortUnit.reset (latches : BitVec 16) : PortUnit := ⟨.idle, [], false, latches, 0, []⟩

/-- The machine right after the power-on reset, with the input lines of `Inputs.quiet` (each chapter's Resets). The
latch words hold RESET_SEEN, SYNC_NOT_LOCKED, MEAS_BLIND and START_HOLD (10 R186): no feeder is mapped by default. -/
def State.reset : State where
  inputs := Inputs.quiet
  time := ⟨0, 0, 0⟩
  sample := SampleUnit.reset 20
  tracker := Tracker.reset none
  rect := Rectifier.reset 900 0 false
  disc := Vector.replicate 6 (Disc.reset 0)
  trips := ⟨[], []⟩
  ctx := Vector.replicate 6 (Context.reset false)
  lineTest := LineTest.reset
  sections := Vector.replicate 6 (Section.reset none [] [] false)
  startHold := true
  links := ⟨LinkUnit.reset, LinkUnit.reset⟩
  journal := Journal.reset .powerOn
  readers := ⟨Reader.reset, Reader.reset⟩
  slots := Vector.replicate 8 Slot.freed
  ports := ⟨PortUnit.reset 0x0807, PortUnit.reset 0x0807⟩
  settings := Settings.defaults
  pending := []

end Sys2Proof.Machine
end

