-- ==== Sys2Proof/Machine/Ops.lean ====
section
/-! DEFINITION. The operations every unit uses: the one place where each unit's state is read and written, the
journal's append with its overflow, the condition latches, retirement, and the transmit queues. -/

namespace Sys2Proof.Machine

/-! ## One of each for ports and links -/

/-- The part of a port. -/
def PerPort.get {α : Type} (x : PerPort α) : Port → α
  | .s => x.s
  | .c => x.c

/-- The parts with one port's replaced. -/
def PerPort.set {α : Type} (x : PerPort α) (p : Port) (a : α) : PerPort α :=
  match p with
  | .s => { x with s := a }
  | .c => { x with c := a }

/-- The part of a link. -/
def PerLink.get {α : Type} (x : PerLink α) : Link → α
  | .u => x.u
  | .d => x.d

/-- The parts with one link's replaced. -/
def PerLink.set {α : Type} (x : PerLink α) (l : Link) (a : α) : PerLink α :=
  match l with
  | .u => { x with u := a }
  | .d => { x with d := a }

/-! ## Updates of one unit -/

/-- Change the sample unit. -/
def State.modSample (s : State) (g : SampleUnit → SampleUnit) : State := { s with sample := g s.sample }

/-- Change the tracker. -/
def State.modTracker (s : State) (g : Tracker → Tracker) : State := { s with tracker := g s.tracker }

/-- Change the rectifier controller. -/
def State.modRect (s : State) (g : Rectifier → Rectifier) : State := { s with rect := g s.rect }

/-- Change the gate test record. -/
def State.modTest (s : State) (g : GateTest → GateTest) : State :=
  s.modRect fun r => { r with test := g r.test }

/-- Change one gate. -/
def State.modGate (s : State) (k : Gate) (g : GateUnit → GateUnit) : State :=
  s.modRect fun r => { r with gates := r.gates.set k (g r.gates[k]) }

/-- Change the discriminator's items of one feeder. -/
def State.modDisc (s : State) (f : Feeder) (g : Disc → Disc) : State :=
  { s with disc := s.disc.set f (g s.disc[f]) }

/-- Change the trip requests on their way. -/
def State.modTrips (s : State) (g : TripQueue → TripQueue) : State := { s with trips := g s.trips }

/-- Change one feeder context. -/
def State.modCtx (s : State) (f : Feeder) (g : Context → Context) : State :=
  { s with ctx := s.ctx.set f (g s.ctx[f]) }

/-- Change the line test unit. -/
def State.modLine (s : State) (g : LineTest → LineTest) : State := { s with lineTest := g s.lineTest }

/-- Change one section record. -/
def State.modSection (s : State) (f : Feeder) (g : Section → Section) : State :=
  { s with sections := s.sections.set f (g s.sections[f]) }

/-- Change one link controller. -/
def State.modLink (s : State) (l : Link) (g : LinkUnit → LinkUnit) : State :=
  { s with links := s.links.set l (g (s.links.get l)) }

/-- Change what a link controller holds for one index. -/
def State.modIndex (s : State) (l : Link) (i : Index) (g : IndexUnit → IndexUnit) : State :=
  s.modLink l fun k => { k with idx := k.idx.set i (g k.idx[i]) }

/-- Change one port unit. -/
def State.modPort (s : State) (p : Port) (g : PortUnit → PortUnit) : State :=
  { s with ports := s.ports.set p (g (s.ports.get p)) }

/-- Change one reader. -/
def State.modReader (s : State) (p : Port) (g : Reader → Reader) : State :=
  { s with readers := s.readers.set p (g (s.readers.get p)) }

/-- Change one fault-record slot. -/
def State.modSlot (s : State) (k : Fin 8) (g : Slot → Slot) : State :=
  { s with slots := s.slots.set k (g s.slots[k]) }

/-! ## What the units read of one another -/

/-- The state of a feeder context. -/
def State.fstate (s : State) (f : Feeder) : FeederState := s.ctx[f].state

/-- The breaker position input shows closed. -/
def State.shows (s : State) (f : Feeder) : Bool := s.inputs.breaker[f]

/-- The section's earthed field (07, 7.1; log 25). -/
def State.earthed (s : State) (f : Feeder) : Bool := s.inputs.earth[f]

/-- The switching authority: "S while the local/remote selector shows LOCAL and C while it shows REMOTE" (07 R131). -/
def State.authority (s : State) : Port :=
  match s.inputs.selector with
  | .localPos => .s
  | .remotePos => .c

/-- Whether a port's select line is low. -/
def Inputs.select (i : Inputs) : Port → Bool
  | .s => i.selectS
  | .c => i.selectC

/-- The inputs with a port's select line low or raised. -/
def Inputs.setSelect (i : Inputs) (p : Port) (low : Bool) : Inputs :=
  match p with
  | .s => { i with selectS := low }
  | .c => { i with selectC := low }

/-- A global setting at the moment of use. -/
def State.g (s : State) (n : GlobalSetting) : Int := s.settings.g n

/-- A setting in ms as ticks. -/
def msTicks (v : Int) : Nat := v.toNat * Config.ticksPerMs

/-- A setting in s as ticks. -/
def secTicks (v : Int) : Nat := v.toNat * Config.ticksPerSecond

/-- The feeder mapped to a link and an index (08 R144). -/
def State.feederAt (s : State) (l : Link) (i : Index) : Option Feeder :=
  feeders.find? fun f => s.sections[f].mapping.any fun m => m.link = l && m.index = i

/-- "A section *holds a peer block* when its peer list has at least one tag or its overflow mark is set" (07 R118). -/
def Section.holdsPeer (x : Section) : Bool := !x.peers.isEmpty || x.overflow

/-- "A section *holds a local block* when its list has at least one entry, ACTIVE or WAITING" (07 R117). -/
def Section.holdsLocal (x : Section) : Bool := !x.blocks.isEmpty

/-- The section is earthed or holds a local block in any state or any peer block (05 R85, R97). -/
def State.barred (s : State) (f : Feeder) : Bool :=
  s.earthed f || s.sections[f].holdsLocal || s.sections[f].holdsPeer

/-- The section's coordination is COORDINATED and its role the one named. -/
def State.coordinatedAs (s : State) (f : Feeder) (r : Role) : Bool :=
  s.sections[f].coord = .coordinated && s.sections[f].mapping.any fun m => m.role = r

/-! ## Condition latches (10 R178) -/

/-- The latches, in the order of their bits (11, 11.2). -/
inductive Latch where
  | resetSeen | syncNotLocked | measBlind | linkUDown | linkDDown | uncoordinated | absorberHot | poolEmpty
  | journalLost | settingsClamped | eoffActive | startHold
  deriving DecidableEq, Repr

/-- The bit of a latch in the condition word (11, 11.2). -/
def Latch.bit : Latch → BitVec 16
  | .resetSeen => 0x0001
  | .syncNotLocked => 0x0002
  | .measBlind => 0x0004
  | .linkUDown => 0x0008
  | .linkDDown => 0x0010
  | .uncoordinated => 0x0020
  | .absorberHot => 0x0040
  | .poolEmpty => 0x0080
  | .journalLost => 0x0100
  | .settingsClamped => 0x0200
  | .eoffActive => 0x0400
  | .startHold => 0x0800

/-- Set a latch in one port's word. -/
def State.latch (s : State) (p : Port) (b : Latch) : State :=
  s.modPort p fun u => { u with latches := u.latches ||| b.bit }

/-- An onset: "the port unit sets the bit in both ports' words" (10 R178). -/
def State.onset (s : State) (b : Latch) : State := (s.latch .s b).latch .c b

/-- An onset where a condition holds. -/
def State.onsetIf (s : State) (c : Bool) (b : Latch) : State := if c then s.onset b else s

/-- The latch of a link's condition. -/
def linkLatch : Link → Latch
  | .u => .linkUDown
  | .d => .linkDDown

/-! ## The journal (09) -/

/-- A slot returns to FREE, its fields discarded (09 R170). -/
def State.freeSlot (s : State) (k : Fin 8) : State := s.modSlot k fun _ => Slot.freed

/-- Free the slot that an entry leaving the journal refers to (09 R170). -/
def State.freeRef (s : State) (e : Entry) : State :=
  match e.ref with
  | some k => s.freeSlot k
  | none => s

/-- A reader whose cursor is the removed entry's sequence number is charged (09 R158 step 3). -/
def State.charge (s : State) (p : Port) (seq : Stamp) : State :=
  if (s.readers.get p).cursor = some seq then
    (s.modReader p fun r => { r with cursor := some (seq + 1), lost := satInc Config.counterTop r.lost }).latch p
      .journalLost
  else s

/-- The oldest entry is given up (09 R158). -/
def State.overflow (s : State) : State :=
  match s.journal.entries with
  | [] => s
  | e :: rest =>
    ((({ s with journal := { s.journal with entries := rest } }).freeRef e).charge .s e.seq).charge .c e.seq

/-- The new entry joins at the newest end and takes the sequence counter and the millisecond clock (09 R156). -/
def State.join (s : State) (k : Kind) (subj : Subject) (d : Detail) (v : Int) (ref : Option (Fin 8)) : State :=
  { s with journal :=
    { entries := s.journal.entries ++ [⟨s.journal.seq, s.time.ms, k, subj, d, v, ref⟩]
      seq := s.journal.seq + 1 } }

/-- An append with a record reference or the absence of one (09 R156, R158). -/
def State.appendRef (s : State) (k : Kind) (subj : Subject) (d : Detail) (v : Int) (ref : Option (Fin 8)) : State :=
  (if s.journal.entries.length < Config.journalDepth then s else s.overflow).join k subj d v ref

/-- An append without a record reference. -/
def State.append (s : State) (k : Kind) (subj : Subject) (d : Detail) (v : Int) : State :=
  s.appendRef k subj d v none

/-- The class of a kind (09, 9.1). -/
def Kind.eventClass : Kind → EventClass
  | .trip | .alarm | .thermalWarn | .busFault | .breakerFail => .protection
  | .closed | .opened | .closeFailed | .lockout | .lockoutReset | .lineTest => .switching
  | .blockPlaced | .blockRemoved | .earthed | .unearthed | .coordination => .track
  | .rectState | .syncState | .absorber | .gateTest | .measState => .supply
  | .linkState | .intertripSent | .intertripRx | .intertripUnack | .peerNotice => .link
  | .reset | .authority | .holdReleased | .settingChanged | .recordMissed => .system

/-- The sequence number of the entry that refers to a slot (09 R164, R171). -/
def State.refSeq (s : State) (k : Fin 8) : Option Stamp :=
  (s.journal.entries.find? fun e => e.ref = some k).map Entry.seq

/-- The oldest entry is retired under these conditions (09 R159). -/
def State.retires (s : State) (e : Entry) : Bool :=
  ((s.readers.s.cursor.isSome || s.readers.c.cursor.isSome)
    && s.readers.s.cursor != some e.seq && s.readers.c.cursor != some e.seq)
    && (match e.ref with
        | some k => s.slots[k].state != .filling
        | none => true)

/-- Retire the oldest of a list of entries while the test holds, giving what remains (09 R159). -/
def State.retireFrom (s : State) : List Entry → State
  | [] => { s with journal := { s.journal with entries := [] } }
  | e :: rest =>
    if s.retires e then (s.freeRef e).retireFrom rest
    else { s with journal := { s.journal with entries := e :: rest } }

/-- The retirement test, "repeated on the new oldest entry until an entry fails it or the journal is empty" (09 R159). -/
def State.retire (s : State) : State := s.retireFrom s.journal.entries

/-- A reader's unread entries: "the entries of the journal from its cursor to the newest" (09, 9.2). -/
def State.unread (s : State) (p : Port) : List Entry :=
  match (s.readers.get p).cursor with
  | none => []
  | some c => s.journal.entries.dropWhile fun e => e.seq != c

/-! ## Events of time (log 2) -/

/-- A timer has run out: it stands at 0. -/
def expired (t : Option Nat) : Bool := t = some 0

/-- The timestamp counter has reached a moment: "It works only with differences taken modulo 2³²" (02 R14, R17; log 2). -/
def State.reached (s : State) (t : Stamp) : Bool := decide ((s.time.stamp - t).toNat < 2 ^ 31)

/-! ## The transmit queues (08 R137) -/

/-- A frame is asked for: a waiting STATUS, or a waiting BLOCK_SET for the same index, takes no second one; a full
queue drops and counts it (08 R137). Where both hold, the first exception stands and nothing is counted (log 36). -/
def LinkUnit.ask (k : LinkUnit) (x : Frame) : LinkUnit :=
  let again := match x with
    | .status => k.queue.contains x
    | .blockSet _ => k.queue.contains x
    | _ => false
  if again then k
  else if k.queue.length < Config.queueDepth then { k with queue := k.queue ++ [x] }
  else { k with dropped := satInc Config.counterTop k.dropped }

/-- A frame is asked for on a link. -/
def State.ask (s : State) (l : Link) (x : Frame) : State := s.modLink l fun k => k.ask x

/-- A frame is asked for on the link of a section, with the section's index; nothing for an unmapped section. -/
def State.askFor (s : State) (f : Feeder) (x : Index → Frame) : State :=
  match s.sections[f].mapping with
  | some m => s.ask m.link (x m.index)
  | none => s

/-- A request to send TRIP_REQ for a feeder's section (08 R146). -/
def State.sendTripReq (s : State) (f : Feeder) : State :=
  match s.sections[f].mapping with
  | none => s
  | some m =>
    let id := (s.links.get m.link).idx[m.index].tripId + 1
    ((s.modIndex m.link m.index fun x => { x with tripId := id, out := some ⟨f, id, 1, Config.retryTicks⟩ }).ask
      m.link (.tripReq m.index id)).append .intertripSent (.sec f) (.linkName m.link) id.toNat

end Sys2Proof.Machine
end

