-- ==== Sys2Proof/Machine/Operands.lean ====
section
/-! DEFINITION. Operands: raw codes and their conditioning, the sample set layout, request parameters, and the bytes
of a response (01 R2, R12; 11). -/

namespace Sys2Proof.Machine

/-! ## Fields of more than one byte, high byte first (11) -/

/-- The signed number of two bytes. -/
def signed16 (hi lo : Byte) : Int := (hi ++ lo).toInt

/-- The two bytes of a number, in two's complement where it is negative. -/
def bytes16 (v : Int) : List Byte :=
  let w := BitVec.ofInt 16 v
  [w.extractLsb' 8 8, w.extractLsb' 0 8]

/-- The four bytes of a number, in two's complement where it is negative. -/
def bytes32 (v : Int) : List Byte :=
  let w := BitVec.ofInt 32 v
  [w.extractLsb' 24 8, w.extractLsb' 16 8, w.extractLsb' 8 8, w.extractLsb' 0 8]

/-- The four bytes of a sequence number, a timestamp or the millisecond clock. -/
def bytesStamp (w : Stamp) : List Byte :=
  [w.extractLsb' 24 8, w.extractLsb' 16 8, w.extractLsb' 8 8, w.extractLsb' 0 8]

/-- The two bytes of a tag. -/
def bytesTag (w : Tag) : List Byte := [w.extractLsb' 8 8, w.extractLsb' 0 8]

/-- One byte of a number. -/
def byte (n : Nat) : List Byte := [BitVec.ofNat 8 n]

/-- "A flag takes one byte, 0 or 1" (11 R187). -/
def flag (b : Bool) : List Byte := [if b then 1 else 0]

/-- An optional item of a fixed width: "preceded by a presence byte, 0 for absent and 1 for present. Its bytes follow
in both cases, as 0 when it is absent" (11 R187). -/
def optional (width : Nat) : Option (List Byte) → List Byte
  | some b => 1 :: b
  | none => 0 :: List.replicate width 0

/-- "A list is a count byte followed by that many entries" (11 R187). -/
def listed (xs : List (List Byte)) : List Byte := byte xs.length ++ xs.flatten

/-- A number of ticks in a unit, rounded as the free value says where it is not whole (log 8). -/
def inUnit (unit ticks : Nat) : Nat :=
  if ticks % unit = 0 then ticks / unit
  else ticks / unit + (if Config.timeLeftRoundsUp unit ticks then 1 else 0)

/-- The time left on a timer in ms. -/
def msLeft (t : Nat) : Nat := inUnit Config.ticksPerMs t

/-- The time left on a timer in s. -/
def secLeft (t : Nat) : Nat := inUnit Config.ticksPerSecond t

/-! ## Channels and conditioning -/

/-- A channel of the sample set layout (11.1). -/
abbrev ChannelNo := Fin 16

/-- The current channel of a feeder. -/
def chI (f : Feeder) : ChannelNo := ⟨f.val, by omega⟩

/-- The line voltage channel of a feeder. -/
def chV (f : Feeder) : ChannelNo := ⟨6 + f.val, by omega⟩

/-- The bus voltage channel. -/
def chBus : ChannelNo := 12

/-- The group A current channel. -/
def chA : ChannelNo := 13

/-- The group B current channel. -/
def chB : ChannelNo := 14

/-- The absorber current channel. -/
def chAbs : ChannelNo := 15

/-- A channel is a current channel or a voltage channel (01, 1.1; log 22). -/
def isCurrent (k : ChannelNo) : Bool := k.val < 6 || 13 ≤ k.val

/-- Conditioning of a raw code, by the table of 01 R2; `none` is the mark *invalid*. -/
def condition (k : ChannelNo) (code : Int) : Option Int :=
  if code = -32768 then none
  else if isCurrent k then
    some (if code = 32767 then 20000 else if code = -32767 then -20000 else clamp code (-20000) 20000)
  else
    some (if code = 32767 then 2000 else if code = -32767 then 0 else clamp code 0 2000)

/-- A channel after a conditioned sample (01 R3). -/
def Channel.take (c : Channel) : Option Int → Channel
  | some v => ⟨some v, 0⟩
  | none => ⟨c.latest, satInc Config.counterTop c.invalidRun⟩

/-- A sample set: its sequence number and its sixteen raw codes (01, 1.1). -/
structure SampleSet where
  seq : Byte
  codes : Vector Int 16
  deriving DecidableEq, Repr

/-- The transfer as a sample set: exactly 33 bytes in the layout of 11.1, or nothing (01 R1). -/
def parseSet (bytes : List Byte) : Option SampleSet :=
  if bytes.length = 33 then
    some ⟨bytes.getD 0 0,
      Vector.ofFn fun k => signed16 (bytes.getD (1 + 2 * k.val) 0) (bytes.getD (2 + 2 * k.val) 0)⟩
  else none

/-- The conditioned values of a set. -/
def SampleSet.conditioned (x : SampleSet) : Vector (Option Int) 16 := Vector.ofFn fun k => condition k x.codes[k]

/-- The held value of a channel: the latest valid value (01 R3). -/
def State.held (s : State) (k : ChannelNo) : Option Int := s.sample.channels[k].latest

/-- The validity of a channel in the most recent taken set: its code conditioned to a value (01 R3). -/
def State.valid (s : State) (k : ChannelNo) : Bool :=
  s.sample.channels[k].latest.isSome && s.sample.channels[k].invalidRun = 0

/-- A reading by the convention of R12: "A channel counts as invalid for this reading when its latest valid value is
absent or when its invalid run count is above 0" (01 R12). -/
def State.reading (s : State) (k : ChannelNo) : Option Int := if s.valid k then s.held k else none

/-! ## Parameters of requests (11 R187) -/

/-- A feeder or section byte: 1 to 6. -/
def feederOf (b : Byte) : Option Feeder :=
  if h : 1 ≤ b.toNat ∧ b.toNat ≤ 6 then some ⟨b.toNat - 1, by omega⟩ else none

/-- A link byte: 1 U, 2 D. -/
def linkOf (b : Byte) : Option Link := if b = 1 then some .u else if b = 2 then some .d else none

/-- A feeder or section number, "sent as itself" (11 R187). -/
def feederNo (f : Feeder) : Nat := f.val + 1

/-! ## Codes of the layouts (11) -/

/-- The result codes (10 R176, 11.3). -/
inductive Result where
  | ok | accepted | clamped | empty | unknownCommand | badArgument | notPermitted | hold | eoff | state | busy
  | blocked | earthed | lockedOut | duplicate | full | notFound | live | noSync | acOpen
  deriving DecidableEq, Repr

/-- The code of a result; code 9 is not used (11.3). -/
def Result.code : Result → Byte
  | .ok => 0 | .accepted => 1 | .clamped => 2 | .empty => 3 | .unknownCommand => 4 | .badArgument => 5
  | .notPermitted => 6 | .hold => 7 | .eoff => 8 | .state => 10 | .busy => 11 | .blocked => 12 | .earthed => 13
  | .lockedOut => 14 | .duplicate => 15 | .full => 16 | .notFound => 17 | .live => 18 | .noSync => 19
  | .acOpen => 20

/-- The number of a trip cause in a detail (11 R189). -/
def TripCause.code : TripCause → Nat
  | .inst => 1 | .ror => 2 | .thermal => 3 | .selfTrip => 4 | .intertripRx => 5 | .command => 6 | .blockOpen => 7
  | .earth => 8 | .interlock => 9 | .blind => 10 | .busFault => 11 | .bfBackup => 12 | .eoff => 13

/-- The number of a lockout cause in a detail (11 R189). -/
def LockCause.code : LockCause → Nat
  | .recloseExhausted => 1 | .sotf => 2 | .busFault => 3 | .breakerFail => 4 | .bfBackup => 5 | .eoff => 6
  | .blind => 7 | .peerLockout => 8 | .peerTimeout => 9 | .peerLost => 10 | .intertripUnack => 11 | .mismatch => 12

/-- The high byte of a RECT_STATE detail (11 R189), one above the number of the state in its table. -/
def RectState.number : RectState → Nat
  | .stopped => 0 | .starting => 1 | .running => 2 | .shifting => 3 | .blocked => 4 | .gateTest => 5

/-- The number of a rectifier cause in its table (03, 3.1), from 0. -/
def RectCause.number : RectCause → Nat
  | .stop => 0 | .busFault => 1 | .breakerFail => 2 | .gateFault => 3 | .blind => 4 | .syncLost => 5 | .eoff => 6
  | .acOpen => 7

/-- The low byte of a RECT_STATE detail (11 R189). -/
def RectNote.code : RectNote → Nat
  | .none => 0
  | .cause c => c.number + 1
  | .autoRestart => 9

/-- The number of a result of a line test in a detail (11 R189). -/
def LineResult.code : LineResult → Nat
  | .none => 0 | .pass => 1 | .lowResistance => 2 | .live => 3 | .peerClosed => 4 | .noSupply => 5 | .invalid => 6
  | .aborted => 7

/-- The number of a coordination value, from 0 (07, 7.1). -/
def Coordination.number : Coordination → Nat
  | .single => 0 | .coordinated => 1 | .uncoordinated => 2 | .mismatch => 3

/-- The number of a tracker state change in a detail (11 R189). -/
def SyncChange.code : SyncChange → Nat
  | .firstCrossing => 1 | .lockComplete => 2 | .acquireTimeout => 3 | .slip => 4 | .missed => 5
  | .missedNoHoldover => 6 | .recovered => 7 | .reacquire => 8 | .holdoverExhausted => 9

/-- The number of a link state, from 0 (08, 8.1). -/
def LinkState.number : LinkState → Nat
  | .down => 0 | .checking => 1 | .up => 2

/-- The number of a port, from 0. -/
def portNumber : Port → Nat
  | .s => 0 | .c => 1

/-- The number of a link in a list that begins with it, from 0. -/
def linkNumber : Link → Nat
  | .u => 0 | .d => 1

/-- The detail field of an entry (11 R189). -/
def Detail.code : Detail → Nat
  | .none => 0
  | .tripCause c => c.code
  | .cancelled => 14
  | .lockCause c => c.code
  | .alarmInst => 1 | .alarmRor => 2 | .alarmThermal => 3
  | .busTrip => 1 | .busAlarm => 2
  | .closedPort => 1 | .closedAutomatic => 2 | .closedUnexpected => 3
  | .failedSupervision => 1 | .failedLineTest => 2 | .failedIntertrip => 3 | .failedPort => 4
  | .line r => r.code
  | .blockPlaced .s active => if active then 1 else 2
  | .blockPlaced .c active => if active then 3 else 4
  | .blockActivated .s => 5 | .blockActivated .c => 6
  | .placedPeer => 7 | .placedPeerOverflow => 8
  | .blockRemoved .s => 1 | .blockRemoved .c => 2
  | .removedPeer => 3 | .removedPeerOverflow => 4
  | .coordination c => c.number + 1
  | .rect st note => (st.number + 1) * 256 + note.code
  | .sync c => c.code
  | .absorberOn => 1 | .absorberOff => 2 | .absorberHot => 3 | .absorberCool => 4
  | .gateTest .clean => 1 | .gateTest .failed => 2 | .gateTest .aborted => 3
  | .gateTest .none => 0 | .gateTest .running => 0
  | .channelFailed => 1 | .channelRestored => 2 | .measBlind => 3 | .measLive => 4 | .blindExpired => 5
  | .linkState l => l.number + 1
  | .linkName l => linkNumber l + 1
  | .unackNoAck => 1 | .unackLinkLost => 2 | .unackMapChanged => 3
  | .noticeTripAck => 1 | .noticeRestored => 2 | .noticeLockout => 3
  | .powerOn => 1 | .warm => 2
  | .selector .localPos => 1 | .selector .remotePos => 2
  | .setting id => id

/-- The kind byte of an entry (11.5). -/
def Kind.code : Kind → Nat
  | .trip => 1 | .alarm => 2 | .thermalWarn => 3 | .busFault => 4 | .breakerFail => 5 | .closed => 6 | .opened => 7
  | .closeFailed => 8 | .lockout => 9 | .lockoutReset => 10 | .lineTest => 11 | .blockPlaced => 12
  | .blockRemoved => 13 | .earthed => 14 | .unearthed => 15 | .coordination => 16 | .rectState => 17
  | .syncState => 18 | .absorber => 19 | .gateTest => 20 | .measState => 21 | .linkState => 22
  | .intertripSent => 23 | .intertripRx => 24 | .intertripUnack => 25 | .peerNotice => 26 | .reset => 27
  | .authority => 28 | .holdReleased => 29 | .settingChanged => 30 | .recordMissed => 31

/-- The class byte of an entry, and the bit of a class in an attention mask (11.2, 11.5). -/
def EventClass.code : EventClass → Nat
  | .protection => 0 | .switching => 1 | .track => 2 | .supply => 3 | .link => 4 | .system => 5

/-- The subject type and subject number bytes of an entry (11.5). -/
def Subject.bytes : Subject → List Byte
  | .none => [0, 0]
  | .feeder f => 1 :: byte (feederNo f)
  | .sec f => 2 :: byte (feederNo f)
  | .groupA => [3, 1]
  | .groupB => [3, 2]
  | .link l => 4 :: byte (linkNumber l + 1)
  | .port p => 5 :: byte (portNumber p + 1)

/-- The 19 bytes of a journal entry (11.5). -/
def Entry.bytes (e : Entry) : List Byte :=
  bytesStamp e.seq ++ bytesStamp e.time ++ byte e.kind.code ++ byte e.kind.eventClass.code ++ e.subject.bytes
    ++ bytes16 e.detail.code ++ bytes32 e.value
    ++ (match e.ref with
        | some k => byte k.val
        | none => [0xFF])

/-- The four bytes of a pair; the invalid mark is −32,768 (11.5). -/
def Pair.bytes (x : Pair) : List Byte := bytes16 (x.current.getD (-32768)) ++ bytes16 (x.vBus.getD (-32768))

end Sys2Proof.Machine
end

