-- ==== Sys2Proof/Machine/Flags.lean ====
section
/-! DEFINITION. Everything the part shows that follows from its state: the outputs of the discrete lines, the presence
of the conditions, the attention lines and status bytes, the close interlock, the announced set. -/

namespace Sys2Proof.Machine

/-! ## Outputs -/

/-- The close coil of a feeder: "driven from the moment its context enters CLOSING until the moment it leaves CLOSING"
(05 R79). -/
def State.closeCoil (s : State) (f : Feeder) : Bool := s.fstate f = .closing

/-- The trip coil of a feeder: driven in TRIPPING and STUCK (05 R79). -/
def State.tripCoil (s : State) (f : Feeder) : Bool := s.fstate f = .tripping || s.fstate f = .stuck

/-- A line-test contactor is driven only for the tested feeder (06 R104, R108). -/
def State.contactor (s : State) (f : Feeder) : Bool := s.lineTest.tested = some f

/-- The AC trip output (03 R39). -/
def State.acTrip (s : State) : Bool := s.inputs.eoff || s.rect.demandBus || s.rect.demandBreaker

/-- The absorber enable output: "asserted while the demand is ON and none of these holds: measurement BLIND, EOFF
asserted, hot flag set" (03 R49). -/
def State.absorberOut (s : State) : Bool :=
  s.rect.absDemand && s.sample.state = .live && !s.inputs.eoff && !s.rect.hot

/-- ΘA = floor(FA / 65,536) (03, 3.8). -/
def State.absorberTheta (s : State) : Int := s.rect.fa / 65536

/-- Θ = floor(F / 65,536) (04, 4.1). -/
def State.theta (s : State) (f : Feeder) : Int := s.disc[f].fine / 65536

/-- The rectifier is BLOCKED with a lockout cause (03, 3.1). -/
def RectCause.lockout : RectCause → Bool
  | .busFault | .breakerFail | .gateFault | .eoff => true
  | .stop | .blind | .syncLost | .acOpen => false

/-- "While the rectifier is BLOCKED with a lockout cause, the rectifier is said to be *locked out*" (03, 3.1). -/
def State.lockedOut (s : State) : Bool := s.rect.state = .blocked && s.rect.cause.any RectCause.lockout

/-- The firing states (03, 3.1). -/
def RectState.firing : RectState → Bool
  | .starting | .running | .shifting => true
  | .stopped | .blocked | .gateTest => false

/-! ## Conditions (10 R178) -/

/-- A feeder is mapped to a link. -/
def State.mappedTo (s : State) (l : Link) : Bool :=
  feeders.any fun f => s.sections[f].mapping.any fun m => m.link = l

/-- Any feeder current channel is FAILED. -/
def State.anyFailed (s : State) : Bool := feeders.any fun f => s.sample.failed[f]

/-- The condition of a latch is present (10 R178). -/
def State.present (s : State) : Latch → Bool
  | .resetSeen => false
  | .syncNotLocked => s.tracker.state != .locked
  | .measBlind => s.sample.state = .blind || s.anyFailed
  | .linkUDown => s.links.u.state != .up && s.mappedTo .u
  | .linkDDown => s.links.d.state != .up && s.mappedTo .d
  | .uncoordinated => feeders.any fun f => s.sections[f].mapping.isSome && s.sections[f].coord != .coordinated
  | .absorberHot => s.rect.hot
  | .poolEmpty => s.slots.toList.all fun x => x.state != .free
  | .journalLost => false
  | .settingsClamped => false
  | .eoffActive => s.inputs.eoff
  | .startHold => s.startHold

/-- The latches in the order of their bits. -/
def latches : List Latch :=
  [.resetSeen, .syncNotLocked, .measBlind, .linkUDown, .linkDDown, .uncoordinated, .absorberHot, .poolEmpty,
   .journalLost, .settingsClamped, .eoffActive, .startHold]

/-- The word of the conditions that are present. -/
def State.presentWord (s : State) : BitVec 16 :=
  latches.foldl (fun w b => if s.present b then w ||| b.bit else w) 0

/-- A port's attention line: an unread entry of an enabled class, or a nonzero latch word (09 R163). -/
def State.attention (s : State) (p : Port) : Bool :=
  ((s.unread p).any fun e => (s.readers.get p).mask.getLsbD e.kind.eventClass.code)
    || (s.ports.get p).latches != 0

/-- The status byte of a port (10 R175, 11.2). -/
def State.statusByte (s : State) (p : Port) : Byte :=
  (if s.attention p then 0x80 else 0) ||| (if (s.ports.get p).latches != 0 then 0x40 else 0)
    ||| (if (s.ports.get p).frameError then 0x20 else 0) ||| (if s.authority = p then 0x10 else 0)
    ||| (if s.startHold then 0x08 else 0)

/-! ## The close interlock (07 R119) -/

/-- The verdict of the close interlock. -/
inductive Verdict where
  | pass | earthed | localBlock | peerBlock | eoff | hold | mismatch
  deriving DecidableEq, Repr

/-- The verdict names the first item that fails, for a port close or an automatic close (07 R119). -/
def State.interlock (s : State) (f : Feeder) (auto : Bool) : Verdict :=
  if s.earthed f then .earthed
  else if s.sections[f].holdsLocal then .localBlock
  else if s.sections[f].holdsPeer then .peerBlock
  else if s.inputs.eoff then .eoff
  else if s.startHold then .hold
  else if auto && s.sections[f].coord = .mismatch then .mismatch
  else .pass

/-- The result code of a refused CLOSE_FEEDER (07 R119). -/
def Verdict.result : Verdict → Result
  | .earthed => .earthed
  | .localBlock => .blocked
  | .peerBlock => .blocked
  | .eoff => .eoff
  | .hold => .hold
  | .mismatch => .state
  | .pass => .accepted

/-- The number of a verdict in a response (log 9). -/
def Verdict.number : Verdict → Nat
  | .pass => 0 | .earthed => 1 | .localBlock => 2 | .peerBlock => 3 | .eoff => 4 | .hold => 5 | .mismatch => 6

/-! ## Tags in ascending order -/

/-- Enter a tag into an ascending list without repeats. -/
def insertTag (t : Tag) : List Tag → List Tag
  | [] => [t]
  | x :: rest => if t < x then t :: x :: rest else if t = x then x :: rest else x :: insertTag t rest

/-- The distinct tags of a list, in ascending order. -/
def ascending (ts : List Tag) : List Tag := ts.foldr insertTag []

/-- A section's announced set, in ascending order (07 R124). -/
def State.announced (s : State) (f : Feeder) : List Tag :=
  ascending ((if s.earthed f then [0] else []) ++ s.sections[f].blocks.map LocalBlock.tag)

end Sys2Proof.Machine
end

