-- ==== Sys2Proof/Machine/Recorder.lean ====
section
/-! DEFINITION. The recorder: taking, filling and sealing fault-record slots (09, 9.3). -/

namespace Sys2Proof.Machine

/-- The slots, lowest first. -/
def slotNos : List (Fin 8) := [0, 1, 2, 3, 4, 5, 6, 7]

/-- The pair that a ring row gives a record of a feeder (09 R166, R168). -/
def RingRow.pair (r : RingRow) (f : Feeder) : Pair := ⟨r.currents[f], r.vBus⟩

/-- A slot is *sealed truncated*, and the retirement test follows (09 R169). -/
def State.sealTruncated (s : State) (k : Fin 8) : State :=
  (s.modSlot k fun x => { x with state := .sealed, truncated := true }).retire

/-- An entry to BLIND seals every FILLING slot (09 R169). -/
def State.sealAll (s : State) : State :=
  slotNos.foldl (fun s k => if s.slots[k].state = .filling then s.sealTruncated k else s) s

/-- The ring rows up to and including the newest one that carries the trigger's number, and the rows after it; nothing
where no row carries it (09 R166 step 4). -/
def splitAtTrigger (rows : List RingRow) (trigger : Byte) : Option (List RingRow × List RingRow) :=
  match rows.reverse.span fun r => r.seq != trigger with
  | (_, []) => none
  | (newer, upTo) => some (upTo.reverse, newer.reverse)

/-- "The gap count counts every copied pair after the first whose set carried the mark" (09 R166), 255 at most. -/
def gapsOf (rows : List RingRow) : Nat := min 255 (rows.tail.countP fun r => r.mark)

/-- The copy of the rings into a slot that has been taken (09 R166 steps 3 to 5). -/
def State.capture (s : State) (k : Fin 8) (f : Feeder) (cause : TripCause) (trigger : Byte) : State :=
  match if s.sample.state = .blind then none else splitAtTrigger s.sample.rings trigger with
  | none => (s.modSlot k fun _ => ⟨.filling, f, cause, trigger, 0, 0, [], 0, false⟩).sealTruncated k
  | some (pre, post) =>
    let rows := pre ++ post
    let taken (st : SlotState) : Slot :=
      ⟨st, f, cause, trigger, pre.length, post.length, rows.map fun r => r.pair f, gapsOf rows, false⟩
    if post.length < Config.postPairs then s.modSlot k fun _ => taken .filling
    else (s.modSlot k fun _ => taken .sealed).retire

/-- A FILLING slot of the same feeder is sealed truncated before a new one is taken (09 R166 step 1). -/
def State.sealSame (s : State) (f : Feeder) : State :=
  match slotNos.find? fun k => s.slots[k].state = .filling && s.slots[k].feeder = f with
  | some k => s.sealTruncated k
  | none => s

/-- The lowest-numbered FREE slot (09 R166 step 2). -/
def State.freeSlotNo (s : State) : Option (Fin 8) := slotNos.find? fun k => s.slots[k].state = .free

/-- A slot is asked for: the slot number handed back, or RECORD_MISSED where none is FREE (09 R166, R167). -/
def State.requestSlot (s : State) (f : Feeder) (cause : TripCause) (trigger : Byte) : Option (Fin 8) × State :=
  let s := s.sealSame f
  match s.freeSlotNo with
  | none => (none, s.append .recordMissed (.feeder f) (.tripCause cause) trigger.toNat)
  | some k =>
    let t := s.modSlot k fun x => { x with state := .filling }
    let t := t.onsetIf t.freeSlotNo.isNone .poolEmpty
    (some k, t.capture k f cause trigger)

/-- One pair for a FILLING slot; the slot is SEALED at 192 post pairs, and the retirement test follows (09 R168). -/
def State.fillSlot (s : State) (k : Fin 8) (row : RingRow) : State :=
  let s := s.modSlot k fun x =>
    { x with
      pairs := x.pairs ++ [row.pair x.feeder]
      post := x.post + 1
      gaps := if row.mark then satInc 255 x.gaps else x.gaps }
  if s.slots[k].post < Config.postPairs then s
  else (s.modSlot k fun x => { x with state := .sealed }).retire

/-- The recorder step of a delivery: "every FILLING slot receives one pair" (01 R9 step 3, 09 R168). -/
def State.fillSlots (s : State) (row : RingRow) : State :=
  slotNos.foldl (fun s k => if s.slots[k].state = .filling then s.fillSlot k row else s) s

end Sys2Proof.Machine
end

