-- ==== Sys2Proof/Machine/RectifierOps.lean ====
section
/-! DEFINITION. The operations of the rectifier controller: entries, shifts, block requests, restarts, reference
instants, the schedule, the regulator, the absorber and the bus differential (03). -/

namespace Sys2Proof.Machine

/-! ## Entries and gates -/

/-- A RECT_STATE entry: its detail names the new state and a cause, its value is α after the change; for GATE_FAULT
the subject is the gate's group and the value its position (03 R45, R53; for RUNNING the cause is none: log 29). -/
def State.rectEntry (s : State) (note : RectNote) (blame : Option Gate) : State :=
  match blame with
  | none => s.append .rectState .none (.rect s.rect.state note) s.rect.alpha
  | some k =>
    s.append .rectState (if k.val < 6 then .groupA else .groupB) (.rect s.rect.state note) ((k.val % 6 : Nat) + 1)

/-- Every gate output is released and the schedule emptied (03 R34, R37, R38, R44). -/
def Rectifier.quiet (r : Rectifier) : Rectifier :=
  { r with
    schedule := []
    gates := Vector.ofFn fun k => { r.gates[k] with driven := false, endAt := none } }

/-- No gate's pulse counts as begun in the present period (log 16). -/
def Rectifier.unfire (r : Rectifier) : Rectifier :=
  { r with gates := Vector.ofFn fun k => { r.gates[k] with fired := false } }

/-- The regulator sums are cleared (03 R40). -/
def Rectifier.clearSums (r : Rectifier) : Rectifier := { r with sumV := 0, countV := 0, sumI := 0, countI := 0 }

/-! ## The firing schedule (03 R43) -/

/-- The gates, in the order A1 to A6, B1 to B6. -/
def gateNos : List Gate := [0, 1, 2, 3, 4, 5, 6, 7, 8, 9, 10, 11]

/-- The firing phase of a gate: (α + off_g + (n − 1) × 600 + phase_ref) mod 3,600 (03 R43). -/
def firingPhase (alpha phaseRef : Int) (k : Gate) : Int :=
  (alpha + (if k.val < 6 then 0 else 300) + (k.val % 6 : Nat) * 600 + phaseRef) % 3600

/-- The pulse of a gate in a period, unless it is late: "A pulse is late when its offset is at most elapsed" (03 R43). -/
def Period.pulse (per : Period) (alpha : Int) (now : Stamp) (k : Gate) : Option Pulse :=
  let offset := firingPhase alpha per.phaseRef k * per.p / 3600
  if offset ≤ (now - per.instant).toNat then none else some ⟨k, per.instant + BitVec.ofInt 32 offset⟩

/-- The pulses of the period under way, at the present α (03 R43). -/
def State.scheduleNow (s : State) (per : Period) : State :=
  s.modRect fun r => { r with schedule := gateNos.filterMap (per.pulse r.alpha s.time.stamp) }

/-- The unbegun pulses of the present period are re-timed at the present α (03 R33). -/
def State.retime (s : State) : State :=
  s.modRect fun r =>
    { r with
      schedule := match r.period with
        | none => []
        | some per => r.schedule.filterMap fun q => per.pulse r.alpha s.time.stamp q.gate }

/-! ## Starting and restarting (03 R30, R35) -/

/-- The effects of an accepted START_RECTIFIER, and of a restart (03 R30, R35). -/
def State.startUp (s : State) (note : RectNote) : State :=
  (s.modRect fun r =>
    { r.clearSums with
      state := .starting
      cause := none
      alpha := s.settings.alphaMax'
      gates := Vector.ofFn fun k => { r.gates[k] with miss := 0 }
      shiftCount := 0
      restart := none }).rectEntry note none

/-- gate_test_required is 0, or the gate test record's result is CLEAN (03 R30). -/
def State.gateTestMet (s : State) : Bool := s.g .gateTestRequired = 0 || s.rect.test.result = .clean

/-- The conditions of a restart, while the window is open (03 R35). -/
def State.mayRestart (s : State) : Bool :=
  s.rect.restart.isSome && s.g .autoRestart = 1 && !s.startHold && !s.lockedOut && !s.inputs.eoff
    && s.inputs.acClosed && s.tracker.state = .locked && s.sample.state = .live && s.gateTestMet

/-- The check of the restart conditions (03 R35). -/
def State.tryRestart (s : State) : State := if s.mayRestart then s.startUp .autoRestart else s

/-! ## Leaving the firing states -/

/-- The state becomes STOPPED (03 R31, R33, R37, R38, R51, R52). -/
def State.enterStopped (s : State) (note : RectNote) : State :=
  (s.modRect fun r => { r.quiet with state := .stopped, cause := none, restart := none }).rectEntry note none

/-- The causes that open a restart window (03 R35). -/
def RectCause.restarts : RectCause → Bool
  | .blind | .syncLost => true
  | .stop | .busFault | .breakerFail | .gateFault | .eoff | .acOpen => false

/-- The state becomes BLOCKED with a cause; SYNC_LOST and BLIND open a restart window, and its conditions are checked
at this entry (03 R32, R35). -/
def State.enterBlocked (s : State) (c : RectCause) (blame : Option Gate) : State :=
  ((s.modRect fun r =>
    { r.quiet with
      state := .blocked
      cause := some c
      restart := if c.restarts then some (msTicks (s.g .restartWindow)) else none }).rectEntry (.cause c)
    blame).tryRestart

/-- The note of a shift end in a RECT_STATE entry: "for SHIFTING, the cause of the shift end, or STOP for a shift end
of STOPPED" (03 R53). -/
def ShiftEnd.note : ShiftEnd → RectNote
  | .stopped => .cause .stop
  | .blocked c => .cause c

/-- The state becomes the shift end (03 R33). -/
def State.finishShift (s : State) (e : ShiftEnd) (blame : Option Gate) : State :=
  match e with
  | .stopped => s.enterStopped (.cause .stop)
  | .blocked c => s.enterBlocked c blame

/-- Entry to SHIFTING (03 R33). -/
def State.beginShift (s : State) (e : ShiftEnd) (blame : Option Gate) : State :=
  ((s.modRect fun r =>
    { r with state := .shifting, alpha := s.settings.alphaInv', shiftCount := 0, shiftEnd := some e }).retime).rectEntry
    e.note blame

/-- From STARTING or RUNNING toward a shift end: a shift, or the end at once if the tracker is UNSYNC (03 R31 to
R33). -/
def State.shiftTo (s : State) (e : ShiftEnd) (blame : Option Gate) : State :=
  if s.tracker.state = .unsync then s.finishShift e blame else s.beginShift e blame

/-- A shift end that is STOPPED or a cause that is not a lockout (03 R31, R32, R37). -/
def ShiftEnd.soft : Option ShiftEnd → Bool
  | some (.blocked c) => !c.lockout
  | _ => true

/-- The cause of a BLOCKED rectifier is not a lockout. -/
def State.softCause (s : State) : Bool := !(s.rect.cause.any RectCause.lockout)

/-- The cause is replaced in BLOCKED, and the restart window is cancelled (03 R32, R38), with the entry that R53 gives a
change of the recorded cause; R38 names entries for changes of the state only (log 34). -/
def State.replaceCause (s : State) (c : RectCause) (blame : Option Gate) : State :=
  (s.modRect fun r => { r with cause := some c, restart := none }).rectEntry (.cause c) blame

/-- The shift end is replaced (03 R31, R32). -/
def State.replaceEnd (s : State) (e : ShiftEnd) (blame : Option Gate) : State :=
  (s.modRect fun r => { r with shiftEnd := some e }).rectEntry e.note blame

/-! ## The gate test -/

/-- A gate test is aborted: the driven gate is released, the step is not judged, the counters keep what they hold
(03 R52). The caller takes the state where it goes. -/
def State.abortGateTest (s : State) : State :=
  (s.modRect fun r =>
    { r.quiet with test := { r.test with result := .aborted, stepTimer := none, driveTimer := none } }).append
    .gateTest .none (.gateTest .aborted) 0

/-- The gate of a step: step j belongs to gate (j mod 12) + 1 (03 R51). -/
def stepGate (j : Nat) : Gate := ⟨j % 12, by omega⟩

/-- A step of the gate test begins: its gate is driven unless it is the skip gate (03 R51). -/
def State.beginGateStep (s : State) : State :=
  let k := stepGate s.rect.test.steps
  (s.modTest fun t =>
    { t with
      stepTimer := some Config.gateStepTicks
      driveTimer := some Config.gateDriveTicks
      feedback := Vector.replicate 12 false }).modGate k fun x =>
    { x with driven := s.rect.test.skip ≠ k.val + 1, endAt := none }

/-! ## Block requests (03 R32) -/

/-- A cause joins the AC trip demands when a block request with it is taken (03 R32, R39). -/
def Rectifier.demand (r : Rectifier) : RectCause → Rectifier
  | .busFault => { r with demandBus := true }
  | .breakerFail => { r with demandBreaker := true }
  | .stop | .gateFault | .blind | .syncLost | .eoff | .acOpen => r

/-- A block request against the rectifier state, by the table of 03 R32. -/
def State.blockState (s : State) (c : RectCause) (blame : Option Gate) : State :=
  match s.rect.state with
  | .stopped => if c.lockout then s.enterBlocked c blame else s
  | .gateTest => if c.lockout then s.abortGateTest.enterBlocked c blame else s
  | .starting => s.shiftTo (.blocked c) blame
  | .running => s.shiftTo (.blocked c) blame
  | .shifting => if c.lockout && ShiftEnd.soft s.rect.shiftEnd then s.replaceEnd (.blocked c) blame else s
  | .blocked => if c.lockout && s.softCause then s.replaceCause c blame else s

/-- A block request (03 R32). -/
def State.blockRequest (s : State) (c : RectCause) (blame : Option Gate) : State :=
  (s.blockState c blame).modRect fun r => r.demand c

/-! ## Reference instants (03 R33, R41, R43, R45) -/

/-- The gate feedback verdict of one gate (03 R45). -/
def GateUnit.judge (x : GateUnit) : GateUnit :=
  if x.fired then { x with fired := false, miss := if x.seen then 0 else satInc 3 x.miss } else x

/-- The gate's miss count reaches 3 at this verdict (03 R45). -/
def GateUnit.faults (x : GateUnit) : Bool := x.fired && !x.seen && x.miss = 2

/-- The verdicts of an instant, and its GATE_FAULT requests in the order A1 to A6, B1 to B6 (03 R45). -/
def State.verdicts (s : State) : State :=
  (gateNos.filter fun k => s.rect.gates[k].faults).foldl (fun s k => s.blockRequest .gateFault (some k))
    (s.modRect fun r => { r with gates := Vector.ofFn fun k => r.gates[k].judge })

/-- The step of the regulator (03 R41 steps 4 to 6). -/
def State.regulatorStep (s : State) (v i : Int) : Int :=
  let limit := s.g .iLim < i
  let step :=
    if limit then -s.g .slew
    else clamp ((s.g .vSet - v) * s.g .gain / 16) (-s.g .slew) (s.g .slew)
  if s.rect.state = .starting then
    if 0 ≤ step then min step (s.g .startSlew) else if limit then step else 0
  else step

/-- The regulator, without the schedule (03 R41 steps 1 to 7). -/
def State.regulate (s : State) : State :=
  if s.rect.countV = 0 then s.modRect fun r => { r with noData := satInc Config.counterTop r.noData }
  else
    let v := s.rect.sumV / s.rect.countV
    let i := if s.rect.countI = 0 then 0 else s.rect.sumI / s.rect.countI
    let alpha := clamp (s.rect.alpha - s.regulatorStep v i) (s.g .alphaMin) s.settings.alphaMax'
    let t := s.modRect fun r => { r with vMeas := some v, iMeas := some i, alpha := alpha }
    if s.rect.state = .starting ∧ (s.g .vSet ≤ v ∨ alpha = s.g .alphaMin) then
      (t.modRect fun r => { r with state := .running }).rectEntry .none none
    else t

/-- A reference instant in SHIFTING counts, and the second ends the shift (03 R33). -/
def State.shiftInstant (s : State) (per : Period) : State :=
  let s := s.modRect fun r => { r with shiftCount := satInc 2 r.shiftCount }
  if s.rect.shiftCount < 2 then s.scheduleNow per
  else s.finishShift (s.rect.shiftEnd.getD .stopped) none

/-- What an instant does after the verdicts, by the state it found: the regulator and the schedule, or the shift
count; an instant at which GATE_FAULT begins a shift schedules its period at α_inv′ and does not count (03 R33, R41,
R45). -/
def State.instantIn (s : State) (was : RectState) (per : Period) : State :=
  if was = .shifting then s.shiftInstant per
  else if s.rect.state = .shifting then s.scheduleNow per
  else if s.rect.state = .starting ∨ s.rect.state = .running then s.regulate.scheduleNow per
  else s

/-- A reference instant is taken: verdicts, then regulator and schedule or shift count (03 R34, "in the order given
there"). Unbegun pulses of the previous period are removed (03 R43); the sums are cleared (03 R40). -/
def State.takeInstant (s : State) (instant : Stamp) (p : Int) : State :=
  let was := s.rect.state
  let per : Period := ⟨instant, p, s.g .phaseRef⟩
  let s := s.modRect fun r => { r with schedule := [], period := some per }
  if was.firing then
    (s.verdicts.instantIn was per).modRect Rectifier.clearSums
  else s.modRect fun r => r.unfire.clearSums

/-- A reference instant: its time, and "whether the instant is real or synthetic" (02 R26). -/
structure Instant where
  time : Stamp
  synthetic : Bool
  deriving DecidableEq, Repr

/-- What the tracker hands to the rectifier controller: its state, the instant that the event defines, and P (02 R26). -/
structure Notice where
  state : TrackerState
  instant : Option Instant
  period : Option Int
  deriving DecidableEq, Repr

/-- The part of a notice that its tracker state decides (03 R34). -/
def State.noticeState (s : State) (st : TrackerState) : State :=
  match st with
  | .acquire =>
    (if s.rect.state = .starting ∨ s.rect.state = .running then s.beginShift (.blocked .syncLost) none else s).modRect
      fun r => (if r.state.firing then r.quiet else r).unfire
  | .unsync =>
    let t := s.modRect fun r => (if r.state.firing then r.quiet else r).unfire
    if s.rect.state = .starting ∨ s.rect.state = .running then t.enterBlocked .syncLost none
    else if s.rect.state = .shifting then t.finishShift (s.rect.shiftEnd.getD .stopped) none
    else t
  | .locked => s.tryRestart
  | .holdover => s

/-- The rectifier controller acts on a tracker notice: the state first, then the reference instant it carries (03
R34). -/
def State.notice (s : State) (n : Notice) : State :=
  let s := s.noticeState n.state
  match n.instant with
  | some x => s.takeInstant x.time (n.period.getD 0)
  | none => s

/-! ## The inputs of the rectifier -/

/-- The AC breaker shows open (03 R37). -/
def State.acOpenRect (s : State) : State :=
  match s.rect.state with
  | .starting => s.enterStopped (.cause .acOpen)
  | .running => s.enterStopped (.cause .acOpen)
  | .shifting =>
    match s.rect.shiftEnd with
    | some (.blocked c) => if c.lockout then s.enterBlocked c none else s.enterStopped (.cause .acOpen)
    | _ => s.enterStopped (.cause .acOpen)
  | .blocked => if s.softCause then s.enterStopped (.cause .acOpen) else s
  | .stopped => s
  | .gateTest => s

/-- EOFF is asserted (03 R38; the entry of a replaced cause: log 34). -/
def State.eoffRect (s : State) : State :=
  match s.rect.state with
  | .starting => s.enterBlocked .eoff none
  | .running => s.enterBlocked .eoff none
  | .shifting => s.enterBlocked .eoff none
  | .blocked => if s.softCause then s.replaceCause .eoff none else s
  | .gateTest => s.abortGateTest.enterStopped (.cause .eoff)
  | .stopped => s

/-! ## What a delivered set does to the rectifier controller (01 R9 step 4) -/

/-- The regulator sums (03 R40). -/
def State.addSums (s : State) : State :=
  if s.rect.state = .starting ∨ s.rect.state = .running then
    s.modRect fun r =>
      let r := match s.reading chBus with
        | some v => if r.countV < Config.counterTop then { r with sumV := r.sumV + v, countV := r.countV + 1 } else r
        | none => r
      match s.reading chA, s.reading chB with
      | some a, some b =>
        if r.countI < Config.counterTop then { r with sumI := r.sumI + (a + b), countI := r.countI + 1 } else r
      | _, _ => r
  else s

/-- All nine currents of the bus differential are valid (03 R46). -/
def State.diffValid (s : State) : Bool :=
  s.valid chA && s.valid chB && s.valid chAbs && feeders.all fun f => s.valid (chI f)

/-- D = I_A + I_B − (i_1 + … + i_6) − I_abs, from the held values (03 R46). -/
def State.diffCurrent (s : State) : Int :=
  (s.held chA).getD 0 + (s.held chB).getD 0 - (feeders.map fun f => (s.held (chI f)).getD 0).sum
    - (s.held chAbs).getD 0

/-- The bus differential moves its run count; it answers D when a bus fault is declared (03 R46; log 31). -/
def State.busDifferential (s : State) : Option Int × State :=
  if actionOf (s.g .busDiffAction) = .off then (none, s.modRect fun r => { r with diffRun := 0 })
  else if s.diffValid then
    let d := s.diffCurrent
    if s.g .busDiffLevel ≤ d.natAbs then
      let run := s.rect.diffRun + 1
      if s.g .busDiffCount ≤ run then (some d, s.modRect fun r => { r with diffRun := 0 })
      else (none, s.modRect fun r => { r with diffRun := run })
    else (none, s.modRect fun r => { r with diffRun := 0, alarmStanding := false })
  else (none, s)

/-- The absorber enable output's changes give an ABSORBER entry with the held V_bus (03 R49; log 30). -/
def State.absorberEdge (s before : State) : State :=
  if s.absorberOut = before.absorberOut then s
  else s.append .absorber .none (if s.absorberOut then .absorberOn else .absorberOff) ((s.held chBus).getD 0)

/-- s = trunc(q² / 1,024) of a heating current (03 R48, 04 R67). -/
def heating (q : Int) : Int := q * q / 1024

/-- One step of a fine thermal value toward s × 65,536 with time constant 2^k samples (03 R48, 04 R67). -/
def thermalStep (fine s : Int) (k : Nat) : Int := fine + (s * 65536 - fine) / (2 ^ k : Int)

/-- The absorber heating (03 R48). -/
def State.absorberHeat (s : State) : State :=
  s.modRect fun r =>
    { r with
      fa := thermalStep r.fa (heating (clamp ((s.held chAbs).getD 0) 0 16000)) (s.g .absShift).toNat }

/-- The demand of the absorber after a held bus voltage (03 R49). -/
def State.demandAfter (s : State) : Bool :=
  match s.held chBus with
  | none => s.rect.absDemand
  | some v => if s.g .absOn ≤ v then true else if v ≤ s.settings.absOff' then false else s.rect.absDemand

/-- The hot flag after the heating (03 R49). -/
def State.hotAfter (s : State) : Bool :=
  if s.g .absHot ≤ s.absorberTheta then true
  else if s.absorberTheta ≤ s.g .absHot / 2 then false
  else s.rect.hot

/-- The absorber on a delivered set: heating, demand, hot flag, and their entries (03 R48, R49; log 12). -/
def State.absorber (s : State) : State :=
  let h := s.absorberHeat
  let t := (h.modRect fun r => { r with absDemand := h.demandAfter, hot := h.hotAfter }).absorberEdge s
  if t.rect.hot = s.rect.hot then t
  else if t.rect.hot then (t.append .absorber .none .absorberHot t.absorberTheta).onset .absorberHot
  else t.append .absorber .none .absorberCool t.absorberTheta

end Sys2Proof.Machine
end

