-- ==== Sys2Proof/Machine/SequencerOps.lean ====
section
/-! DEFINITION. The operations of the breaker sequencer and of the line test unit: trips, dispositions, lockouts,
failed attempts, closes, and the queue of feeders that wait for a test (05, 06). -/

namespace Sys2Proof.Machine

/-! ## Leaving the queue and the test (06 R104, R112) -/

/-- A feeder leaves the line-test queue; the others keep their order (06 R104). -/
def State.leaveQueue (s : State) (f : Feeder) : State :=
  s.modLine fun u => { u with queue := u.queue.filter fun g => g != f }

/-- A LINE_TEST entry, and the feeder's last result (06 R113). -/
def State.recordResult (s : State) (f : Feeder) (x : LastResult) : State :=
  (s.append .lineTest (.feeder f) (.line x.result) x.value).modLine fun u => { u with last := u.last.set f x }

/-- A departure of the tested feeder aborts its test; nothing for a feeder that is not tested (06 R112). The kind of
close is the one that was under way. -/
def State.abortTest (s : State) (f : Feeder) (auto : Bool) : State :=
  if s.lineTest.tested = some f then
    (s.modLine fun u => { u with tested := none, timer := none }).recordResult f ⟨.aborted, auto, none, none, 0⟩
  else s

/-- What a reclose state held is undone: timers stop, the feeder leaves the queue, its test is aborted (05 R91, R97; its
LINE_TEST entry before those that follow: log 38). -/
def State.undoReclose (s : State) (f : Feeder) : State :=
  ((s.modCtx f fun c => { c with deadTimer := none, followTimer := none, wait := none }).leaveQueue f).abortTest f
    s.ctx[f].auto

/-! ## Lockout (05 R87) -/

/-- Entry to LOCKED (05 R87). -/
def State.enterLocked (s : State) (f : Feeder) (cause : LockCause) : State :=
  let t := ((s.modCtx f fun c =>
      { c with
        state := .locked
        lock := some cause
        disp := none
        auto := false
        wait := none
        tripTimer := none
        closeTimer := none
        deadTimer := none
        reclaimTimer := none
        followTimer := none }).leaveQueue f).abortTest f s.ctx[f].auto
  let t := t.append .lockout (.feeder f) (.lockCause cause) s.ctx[f].count
  if s.coordinatedAs f .lead && cause != .peerLockout then t.askFor f .lockout else t

/-! ## Trips (05, 5.2 and 5.3) -/

/-- Causes for which the recorder is asked for a slot (05 R82 step 2). -/
def TripCause.recorded : TripCause → Bool
  | .inst | .ror | .selfTrip | .intertripRx => true
  | .thermal | .command | .blockOpen | .earth | .interlock | .blind | .busFault | .bfBackup | .eoff => false

/-- Commanded opens, which make no TRIP entry (05 R82 step 3). -/
def TripCause.commanded : TripCause → Bool
  | .command | .blockOpen | .earth | .interlock => true
  | .inst | .ror | .thermal | .selfTrip | .intertripRx | .blind | .busFault | .bfBackup | .eoff => false

/-- Causes that ask for a TRIP_REQ on a COORDINATED section (05 R82 step 4). -/
def TripCause.intertrips : TripCause → Bool
  | .inst | .ror | .selfTrip => true
  | .thermal | .intertripRx | .command | .blockOpen | .earth | .interlock | .blind | .busFault | .bfBackup | .eoff =>
    false

/-- The disposition of a trip with a protection cause, the first that applies (05 R81). -/
def State.chooseDisposition (s : State) (f : Feeder) (cause : TripCause) (blank : Nat) : Disposition :=
  if 0 < blank then .locked .sotf
  else if s.sections[f].coord = .mismatch then .locked .mismatch
  else if s.settings.f f .recloseMax = 0 then .opened
  else if cause = .thermal then .thermalWait
  else if s.coordinatedAs f .follow then .follow
  else if (s.ctx[f].count : Int) < s.settings.f f .recloseMax then .reclose
  else .locked .recloseExhausted

/-- The next dead time, by the reclose count after the attempt has been counted (05 R90). -/
def State.deadTime (s : State) (f : Feeder) (count : Nat) : Nat :=
  msTicks (s.settings.f f (if count ≤ 1 then .deadTime1 else if count = 2 then .deadTime2 else .deadTime3))

/-- A disposition that a bar on the section replaces by OPEN (05 R85). -/
def Disposition.recloses : Disposition → Bool
  | .reclose | .thermalWait | .follow => true
  | .opened | .locked _ => false

/-- The context becomes OPEN: no disposition, no timer of a reclose state, the automatic flag cleared. -/
def Context.toOpened (c : Context) : Context :=
  { c with
    state := .opened, disp := none, auto := false, wait := none
    tripTimer := none, closeTimer := none, deadTimer := none, reclaimTimer := none, followTimer := none }

/-- The context enters DEAD_TIME: "The automatic flag is cleared on entry to DEAD_TIME or WAIT_PEER" (05 R85, R91). -/
def Context.toDeadTime (c : Context) (wait : WaitKind) (timer : Option Nat) : Context :=
  { c with state := .deadTime, disp := none, auto := false, wait := some wait, deadTimer := timer, followTimer := none }

/-- The context enters WAIT_PEER, with what is left of the follow wait (05 R85, R86, R91). -/
def Context.toWaitPeer (c : Context) (follow : Option Nat) : Context :=
  { c with state := .waitPeer, disp := none, auto := false, wait := none, deadTimer := none, followTimer := follow }

/-- The disposition acts (05 R85). FOLLOW without a mapped FOLLOW section is PEER_LOST (R85 names it for
UNCOORDINATED; no run reaches SINGLE or LEAD here, R145). -/
def State.applyDisposition (s : State) (f : Feeder) (d : Disposition) : State :=
  match if s.barred f && d.recloses then .opened else d with
  | .opened => s.modCtx f Context.toOpened
  | .reclose =>
    s.modCtx f fun c => { c.toDeadTime .timed (some (s.deadTime f (c.count + 1))) with count := c.count + 1 }
  | .thermalWait => s.modCtx f fun c => c.toDeadTime .thermal none
  | .follow =>
    if s.coordinatedAs f .follow then s.modCtx f fun c => c.toWaitPeer c.followTimer
    else if s.sections[f].coord = .mismatch then s.enterLocked f .mismatch
    else s.enterLocked f .peerLost
  | .locked c => s.enterLocked f c

/-- A trip is completed: the OPENED entry with the last trip cause, then the disposition (05 R85). -/
def State.completeTrip (s : State) (f : Feeder) : State :=
  ((s.modCtx f fun c => { c with tripTimer := none }).append .opened (.feeder f)
    (match s.ctx[f].lastTrip with
      | some c => .tripCause c
      | none => .none) 0).applyDisposition f (s.ctx[f].disp.getD .opened)

/-- The slot request and the TRIP entry of an accepted trip (05 R82 steps 2 and 3). -/
def State.tripEntry (s : State) (f : Feeder) (cause : TripCause) (value : Int) (trigger : Byte) : State :=
  if cause.commanded then s
  else if cause.recorded then
    let (ref, t) := s.requestSlot f cause trigger
    t.appendRef .trip (.feeder f) (.tripCause cause) value ref
  else s.append .trip (.feeder f) (.tripCause cause) value

/-- An accepted trip (05 R82), completed at once where the position already shows open (05 R84, R88); a SELF_TRIP with
disposition FOLLOW starts the follow wait too (log 18). -/
def State.trip (s : State) (f : Feeder) (cause : TripCause) (disp : Disposition) (value : Int) (trigger : Byte) :
    State :=
  let t := s.modCtx f fun c =>
    { c with
      state := .tripping
      lastTrip := some cause
      disp := some disp
      closeTimer := none
      reclaimTimer := none
      tripTimer := if s.shows f then some (msTicks (s.g .tripTimeMax)) else none
      followTimer := if disp = .follow then some (secTicks (s.settings.f f .followWait)) else none }
  let t := t.tripEntry f cause value trigger
  let t := if cause.intertrips && s.sections[f].coord = .coordinated then t.sendTripReq f else t
  if s.shows f then t else t.completeTrip f

/-- A trip request is accepted when it finds the context CLOSED, and ignored otherwise (05 R80). -/
def State.tripRequest (s : State) (f : Feeder) (cause : TripCause) (disp : Disposition) (value : Int)
    (trigger : Byte) : State :=
  if s.fstate f = .closed then s.trip f cause disp value trigger else s

/-- A trip request with a protection cause, whose disposition the sequencer chooses (05 R81). -/
def State.protectionTrip (s : State) (f : Feeder) (cause : TripCause) (value : Int) (trigger : Byte) (blank : Nat) :
    State :=
  s.tripRequest f cause (s.chooseDisposition f cause blank) value trigger

/-- The number of the newest delivered set, "or 0 when no set has been delivered since the last reset" (05 R82). -/
def State.newestSeq (s : State) : Byte := (s.sample.newest.map Delivered.seq).getD 0

/-- The held current of the newest delivered set, "or 0 when no set has been delivered since the last reset"; a free
value where the feeder's channel has never read as valid (05 R82 step 3; log 30). -/
def State.newestHeld (s : State) (f : Feeder) : Int :=
  match s.sample.newest with
  | none => 0
  | some x =>
    match x.held[f] with
    | some v => v
    | none => (Config.unstatedCurrent s.journal.seq).toInt

/-! ## Commanded opens and cancellations (05 R83) -/

/-- From a reclose state to OPEN: the OPENED entry carries the detail and the reclose count, and a test is aborted (05
R83, 06 R112). OPENED comes before LINE_TEST ABORTED, one of the orders allowed and the one 12.4 shows: log 38. -/
def State.cancelTo (s : State) (f : Feeder) (d : Detail) : State :=
  (((s.modCtx f Context.toOpened).leaveQueue f).append .opened (.feeder f) d s.ctx[f].count).abortTest f s.ctx[f].auto

/-- A commanded open, by the table of 05 R83. -/
def State.commandedOpen (s : State) (f : Feeder) (cause : TripCause) : State :=
  match s.fstate f with
  | .closed => s.trip f cause .opened 0 0
  | .closing => s.trip f cause .opened 0 0
  | .deadTime => s.cancelTo f (.tripCause cause)
  | .queued => s.cancelTo f (.tripCause cause)
  | .testing => s.cancelTo f (.tripCause cause)
  | .waitPeer => s.cancelTo f (.tripCause cause)
  | .opened => s
  | .locked => s
  | .tripping => s
  | .stuck => s

/-- A cancellation, by the table of 05 R83. -/
def State.cancel (s : State) (f : Feeder) : State :=
  match s.fstate f with
  | .deadTime => s.cancelTo f .cancelled
  | .queued => s.cancelTo f .cancelled
  | .testing => s.cancelTo f .cancelled
  | .waitPeer => s.cancelTo f .cancelled
  | .closed => s
  | .closing => s
  | .opened => s
  | .locked => s
  | .tripping => s
  | .stuck => s

/-- A bar that takes force on a section opens a CLOSED or CLOSING feeder and cancels one in a reclose state (07 R121,
R125, R127). -/
def State.barFeeder (s : State) (f : Feeder) (cause : TripCause) : State :=
  match s.fstate f with
  | .closed => s.commandedOpen f cause
  | .closing => s.commandedOpen f cause
  | _ => s.cancel f

/-! ## Failed attempts and closes (05, 5.5 and 5.6) -/

/-- A failed attempt is counted; what the state held has been undone (05 R91; CLOSE_FAILED before LOCKOUT: log 38). -/
def State.failedAttempt (s : State) (f : Feeder) (reason : Detail) : State :=
  let count := s.ctx[f].count
  if s.settings.f f .recloseMax ≤ count then
    (s.append .closeFailed (.feeder f) reason count).enterLocked f .recloseExhausted
  else
    let t := (s.modCtx f fun c => { c with count := count + 1 }).append .closeFailed (.feeder f) reason (count + 1)
    if s.sections[f].coord = .mismatch then t.enterLocked f .mismatch
    else if s.coordinatedAs f .follow then
      t.modCtx f fun c =>
        { c.toWaitPeer (some (secTicks (s.settings.f f .followWait))) with closeTimer := none }
    else
      t.modCtx f fun c => { c.toDeadTime .timed (some (s.deadTime f (count + 1))) with closeTimer := none }

/-- Entry to CLOSING: the close coil is driven and the close supervision timer starts (05 R93). -/
def State.enterClosing (s : State) (f : Feeder) : State :=
  s.modCtx f fun c =>
    { c with state := .closing, wait := none, followTimer := none, closeTimer := some (msTicks (s.g .closeTimeMax)) }

/-- An interlock that fails for a close under way gives OPEN and an OPENED entry with detail INTERLOCK (05 R89, 06
R105, R110, 08 R150). -/
def State.interlockFails (s : State) (f : Feeder) : State :=
  (s.modCtx f Context.toOpened).append .opened (.feeder f) (.tripCause .interlock) 0

/-- The context enters QUEUED and the feeder joins the queue at its tail (06 R104). -/
def State.joinQueue (s : State) (f : Feeder) (auto : Bool) : State :=
  (s.modCtx f fun c => { c with state := .queued, auto := auto, wait := none, deadTimer := none }).modLine
    fun u => { u with queue := u.queue ++ [f] }

/-- The end of a dead time (05 R89). -/
def State.deadTimeEnd (s : State) (f : Feeder) : State :=
  if s.interlock f true = .pass then s.joinQueue f true else s.interlockFails f

/-- A cool notice ends a dead time that waits on the thermal value; it has no effect in any other state (05 R89). -/
def State.coolNotice (s : State) (f : Feeder) : State :=
  if s.fstate f = .deadTime ∧ s.ctx[f].wait = some .thermal then s.deadTimeEnd f else s

/-! ## Lockout demands and EOFF (05, 5.10) -/

/-- A lockout demand, by the table of 05 R100 (log 19). -/
def State.lockoutDemand (s : State) (f : Feeder) (cause : LockCause) : State :=
  match s.fstate f with
  | .opened => if cause = .peerLockout ∨ cause = .intertripUnack then s.enterLocked f cause else s
  | .deadTime => if cause = .peerLockout ∨ cause = .intertripUnack then s.enterLocked f cause else s
  | .queued => if cause = .peerLockout ∨ cause = .intertripUnack then s.enterLocked f cause else s
  | .testing => if cause = .peerLockout ∨ cause = .intertripUnack then s.enterLocked f cause else s
  | .waitPeer => s.enterLocked f cause
  | .tripping =>
    match s.ctx[f].disp with
    | some (.locked _) => s
    | _ =>
      if cause = .intertripUnack then
        s.modCtx f fun c => { c with disp := some (.locked .intertripUnack), followTimer := none }
      else s
  | .closing => s
  | .closed => s
  | .locked => s
  | .stuck => s

/-- Assertion of EOFF on one feeder, by the table of 05 R99. -/
def State.eoffFeeder (s : State) (f : Feeder) : State :=
  match s.fstate f with
  | .closed => s.trip f .eoff (.locked .eoff) 0 0
  | .closing => s.trip f .eoff (.locked .eoff) 0 0
  | .deadTime => s.enterLocked f .eoff
  | .queued => s.enterLocked f .eoff
  | .testing => s.enterLocked f .eoff
  | .waitPeer => s.enterLocked f .eoff
  | .tripping => s.modCtx f fun c => { c with disp := some (.locked .eoff), followTimer := none }
  | .opened => s
  | .locked => s
  | .stuck => s

/-! ## The line test unit (06) -/

/-- A FAIL result: a failed attempt on an automatic close, OPEN on a port close (06 R111). -/
def State.lineFails (s : State) (f : Feeder) : State :=
  if s.ctx[f].auto then s.failedAttempt f .failedLineTest else s.modCtx f Context.toOpened

/-- The test begins (06 R108). -/
def State.beginTest (s : State) (f : Feeder) : State :=
  (s.modCtx f fun c => { c with state := .testing }).modLine fun u =>
    { u with tested := some f, timer := some (msTicks (s.g .ltTime)) }

/-- The start checks on a head that has been taken from the queue (06 R105 to R108). -/
def State.takeHead (s : State) (f : Feeder) : State :=
  let auto := s.ctx[f].auto
  let vBus := s.reading chBus
  let vLine := s.reading (chV f)
  if s.interlock f auto ≠ .pass then s.interlockFails f
  else if auto && s.sections[f].coord = .coordinated && s.sections[f].summary.any PeerEnd.closed then
    (s.recordResult f ⟨.peerClosed, auto, none, none, 0⟩).lineFails f
  else if vBus.all fun v => v < s.g .ltSupplyMin then
    (s.recordResult f ⟨.noSupply, auto, vBus, vLine, vBus.getD 0⟩).lineFails f
  else if s.sample.state = .live && vLine.any fun v => s.g .liveLevel ≤ v then
    (s.recordResult f ⟨.live, auto, vBus, vLine, vLine.getD 0⟩).enterClosing f
  else s.beginTest f

/-- The idle unit takes heads "until a test begins or the queue is empty" (06 R105). -/
def State.takeHeads : Nat → State → State
  | 0, s => s
  | n + 1, s =>
    if s.lineTest.tested.isSome then s
    else
      match s.lineTest.queue with
      | [] => s
      | f :: rest => ((s.modLine fun u => { u with queue := rest }).takeHead f).takeHeads n

/-- The unit takes its heads once the command that freed it, or that a feeder joined by, is otherwise complete (06
R105; log 11). -/
def State.settle (s : State) : State := s.takeHeads s.lineTest.queue.length

/-- The estimated line resistance (06 R113). -/
def estimate (vBus vLine resistor : Int) : Int :=
  if vBus ≤ vLine then 100000 else min 100000 (vLine * resistor / (vBus - vLine))

/-- The result of an expired test, with its value (06 R109, R113). -/
def State.judgeTest (s : State) (vBus vLine : Option Int) : LineResult × Int :=
  match vBus, vLine with
  | some b, some v =>
    if s.sample.state = .blind then (.invalid, 0)
    else if s.g .ltMinResistance * b ≤ v * (s.g .ltResistor + s.g .ltMinResistance) then
      (.pass, estimate b v (s.g .ltResistor))
    else (.lowResistance, estimate b v (s.g .ltResistor))
  | _, _ => (.invalid, 0)

/-- The end of the test of a feeder: the unit is IDLE, the result is recorded and applied (06 R109 to R111). -/
def State.endTest (s : State) (f : Feeder) : State :=
  let auto := s.ctx[f].auto
  let vBus := s.reading chBus
  let vLine := s.reading (chV f)
  let (result, value) := s.judgeTest vBus vLine
  let t := (s.modLine fun u => { u with tested := none, timer := none }).recordResult f
    ⟨result, auto, vBus, vLine, value⟩
  if result = .pass then if s.interlock f auto = .pass then t.enterClosing f else t.interlockFails f
  else t.lineFails f

end Sys2Proof.Machine
end

