-- ==== Sys2Proof/Machine/Discriminator.lean ====
section
/-! DEFINITION. The feeder discriminator: the evaluation of one feeder on one delivered set, and what it hands to the
journal and to the breaker sequencer (04). -/

namespace Sys2Proof.Machine

/-- An evaluation under way: the discriminator's items, the entries called for so far, and the values of the trips
called for by the three tests (04 R55). -/
structure Evaluation where
  disc : Disc
  entries : List (Kind × Detail × Int)
  inst : Option Int
  ror : Option Int
  thermal : Option Int
  deriving DecidableEq, Repr

/-- What the evaluation of a feeder reads beside its items: the held value, whether the channel is FAILED, the
continuity mark, and whether the feeder is *closed for protection* (04 R55, R56). -/
structure Seen where
  held : Option Int
  failed : Bool
  mark : Bool
  closed : Bool
  deriving DecidableEq, Repr

/-- A statistic counts (04 R75). -/
def count (n : Nat) : Nat := satInc Config.counterTop n

/-! ## Episodes (04 R65, R66) -/

/-- A rise episode is cancelled, if one is present (04 R66). -/
def Disc.cancelEpisode (d : Disc) : Disc :=
  if d.episode.isSome then { d with episode := none, cancelled := count d.cancelled } else d

/-- An episode ends without operating (04 R65). -/
def Disc.endEpisode (d : Disc) (e : Episode) : Disc :=
  { d with episode := none, ended := count d.ended, largest := max d.largest e.rise }

/-! ## Step 1: the continuity mark (04 R57) -/

/-- The previous sample becomes absent, the episode is cancelled and the run ends. -/
def Disc.onMark (d : Disc) (mark : Bool) : Disc :=
  if mark then { d.cancelEpisode with prev := none, instRun := 0, instAlarm := false } else d

/-! ## Step 3: the instantaneous test (04 R59, R60) -/

/-- The run count and its alarm standing, by the table of 04 R59. -/
def Disc.instCount (d : Disc) (st : Settings) (f : Feeder) (x : Seen) : Disc :=
  if actionOf (st.f f .instAction) != .off && x.closed && x.held.any fun i => st.f f .instLevel ≤ i then
    { d with instRun := satInc 255 d.instRun }
  else { d with instRun := 0, instAlarm := false }

/-- The instantaneous test. -/
def Evaluation.instTest (e : Evaluation) (st : Settings) (f : Feeder) (x : Seen) : Evaluation :=
  let d := e.disc.instCount st f x
  let i := x.held.getD 0
  if st.f f .instCount ≤ d.instRun then
    match actionOf (st.f f .instAction) with
    | .trip => { e with disc := { d with instOps := count d.instOps }, inst := some i }
    | .alarm =>
      if d.instAlarm then { e with disc := d }
      else
        { e with
          disc := { d with instAlarm := true, instOps := count d.instOps }
          entries := e.entries ++ [(.alarm, .alarmInst, i)] }
    | .off => { e with disc := d }
  else { e with disc := d }

/-! ## Step 4: the rate-of-rise test (04 R61 to R66) -/

/-- The trip test on a sample of an episode (04 R64). -/
def Evaluation.rorSample (e : Evaluation) (st : Settings) (f : Feeder) (p : Episode) : Evaluation :=
  if st.f f .rorDelta ≤ p.rise ∧ st.f f .rorMinLen ≤ p.length then
    let d := { e.disc with episode := none, rorOps := count e.disc.rorOps }
    match actionOf (st.f f .rorAction) with
    | .trip => { e with disc := d, ror := some p.rise }
    | _ => { e with disc := d, entries := e.entries ++ [(.alarm, .alarmRor, p.rise)] }
  else if st.max' f ≤ p.length then { e with disc := e.disc.endEpisode p }
  else { e with disc := { e.disc with episode := some p } }

/-- The test on a difference: an episode begins, goes on or ends (04 R62, R63). -/
def Evaluation.rorDifference (e : Evaluation) (st : Settings) (f : Feeder) (prev i : Int) : Evaluation :=
  match e.disc.episode with
  | none =>
    if e.disc.blank = 0 ∧ st.f f .rorStart ≤ i - prev then e.rorSample st f ⟨prev, 1, i - prev⟩ else e
  | some p =>
    if st.cont' f ≤ i - prev then e.rorSample st f ⟨p.base, p.length + 1, i - p.base⟩
    else { e with disc := e.disc.endEpisode p }

/-- The rate-of-rise test is made, or its episode is cancelled (04 R61). -/
def Evaluation.rorTest (e : Evaluation) (st : Settings) (f : Feeder) (x : Seen) : Evaluation :=
  match e.disc.prev, x.held with
  | some prev, some i =>
    if actionOf (st.f f .rorAction) != .off && x.closed then e.rorDifference st f prev i
    else { e with disc := e.disc.cancelEpisode }
  | _, _ => { e with disc := e.disc.cancelEpisode }

/-! ## Step 5: the thermal value and its levels (04 R67 to R71) -/

/-- Θ = floor(F / 65,536). -/
def Disc.theta (d : Disc) : Int := d.fine / 65536

/-- The update of the fine thermal value (04 R67, R68). -/
def Disc.heat (d : Disc) (st : Settings) (f : Feeder) (x : Seen) : Disc :=
  { d with fine := thermalStep d.fine (heating (min ((x.held.getD 0).natAbs : Int) 16000)) (st.f f .thermalShift).toNat }

/-- The warn level (04 R69). -/
def Evaluation.warnTest (e : Evaluation) (st : Settings) (f : Feeder) : Evaluation :=
  let d := e.disc
  if actionOf (st.f f .thermalAction) != .off && decide (st.f f .thermalWarn ≤ d.theta) then
    if d.warn then e
    else { e with disc := { d with warn := true }, entries := e.entries ++ [(.thermalWarn, .none, d.theta)] }
  else { e with disc := { d with warn := false } }

/-- The trip level (04 R70). -/
def Evaluation.tripLevel (e : Evaluation) (st : Settings) (f : Feeder) (x : Seen) : Evaluation :=
  let d := e.disc
  if st.f f .thermalTrip ≤ d.theta then
    match actionOf (st.f f .thermalAction) with
    | .trip =>
      if x.closed then { e with disc := { d with thermalOps := count d.thermalOps }, thermal := some d.theta } else e
    | .alarm =>
      if d.thermalAlarm then e
      else
        { e with
          disc := { d with thermalAlarm := true, thermalOps := count d.thermalOps }
          entries := e.entries ++ [(.alarm, .alarmThermal, d.theta)] }
    | .off => e
  else e

/-- The thermal alarm standing is cleared by a cool feeder, or with the action OFF (04 R70). -/
def Disc.clearAlarm (d : Disc) (st : Settings) (f : Feeder) : Disc :=
  if actionOf (st.f f .thermalAction) = .off ∨ d.theta ≤ st.reset' f then { d with thermalAlarm := false } else d

/-! ## Steps 6 and 7 (04 R58) -/

/-- The close-blank count and the previous sample. -/
def Disc.close (d : Disc) (x : Seen) : Disc :=
  { d with blank := d.blank - 1, prev := if x.failed then none else x.held }

/-! ## The evaluation (04 R55) -/

/-- Steps 1 to 5 of an evaluation. -/
def Disc.tests (d : Disc) (st : Settings) (f : Feeder) (x : Seen) : Evaluation :=
  let e : Evaluation := ⟨d.onMark x.mark, [], none, none, none⟩
  let e := (e.instTest st f x).rorTest st f x
  let e := ({ e with disc := e.disc.heat st f x }.warnTest st f).tripLevel st f x
  { e with disc := e.disc.clearAlarm st f }

/-- The cause and value of the one trip request: "the first called-for cause in the order INST, ROR, THERMAL" (04
R73). -/
def Evaluation.call (e : Evaluation) : Option (TripCause × Int) :=
  match e.inst, e.ror, e.thermal with
  | some v, _, _ => some (.inst, v)
  | none, some v, _ => some (.ror, v)
  | none, none, some v => some (.thermal, v)
  | none, none, none => none

/-- The journal entries of an evaluation. -/
def State.evalEntries (s : State) (f : Feeder) (es : List (Kind × Detail × Int)) : State :=
  es.foldl (fun s x => s.append x.1 (.feeder f) x.2.1 x.2.2) s

/-- What the evaluation of a feeder reads (04 R55 step 2, R56). -/
def State.seen (s : State) (f : Feeder) (mark : Bool) : Seen :=
  let held := s.held (chI f)
  let failed := s.sample.failed[f]
  ⟨held, failed, mark, s.fstate f = .closed && !failed && held.isSome⟩

/-- The tests of a feeder on a delivered set (04 R55). -/
def State.evaluation (s : State) (f : Feeder) (mark : Bool) : Evaluation := s.disc[f].tests s.settings f (s.seen f mark)

/-- Step 8: the trip request that the tests call for is handed over; it carries the number of the set, which is the newest
delivered, and the close-blank count as step 4 read it, here that of the state before the evaluation (04 R72). -/
def State.handOver (s before : State) (f : Feeder) (call : Option (TripCause × Int)) : State :=
  match call with
  | some (cause, value) =>
    s.modTrips fun q => { q with calls := q.calls ++ [⟨f, cause, value, s.newestSeq, before.disc[f].blank⟩] }
  | none => s

/-- The evaluation of a feeder on a delivered set: the items, the entries, the cool notice and the trip request (04 R55,
R71, R72). -/
def State.evaluate (s : State) (f : Feeder) (mark : Bool) : State :=
  let e := s.evaluation f mark
  let t := (s.modDisc f fun _ => e.disc.close (s.seen f mark)).evalEntries f e.entries
  (if e.disc.theta ≤ s.settings.reset' f then t.coolNotice f else t).handOver s f e.call

/-- The evaluations of all feeders on one delivered set, feeders 1 to 6 in turn (01 R9 step 2; that order: log 12). -/
def State.discriminate (s : State) (mark : Bool) : State := feeders.foldl (fun s f => s.evaluate f mark) s

/-! ## The trip requests reach the sequencer (04 R55, R72; log 10) -/

/-- The sequencer takes a request: accepted by a feeder that it finds CLOSED, else ignored, "The discriminator's own counts
and statistics stand in both orders" (04 R55; 05 R80, R81). -/
def State.takeTrip (s : State) (r : TripCall) : State := s.protectionTrip r.feeder r.cause r.value r.trigger r.blank

/-- A request that could be taken is taken, or something else comes first and it stays on its way: "Either order can
occur" (04 R55). The next choice says which; where no choice is left it is taken (log 10). -/
def State.offerTrip (s : State) (r : TripCall) : State :=
  match s.trips.late with
  | true :: rest => s.modTrips fun q => ⟨q.calls ++ [r], rest⟩
  | false :: rest => (s.modTrips fun q => { q with late := rest }).takeTrip r
  | [] => s.takeTrip r

/-- The requests on their way could be taken, oldest first. -/
def State.offerTrips (s : State) : State :=
  s.trips.calls.foldl State.offerTrip (s.modTrips fun q => { q with calls := [] })

end Sys2Proof.Machine
end

