-- ==== Sys2Proof/Machine/SectionOps.lean ====
section
/-! DEFINITION. The operations of the section table: notices of the announced set, peer blocks, coordination, and
the effects of a changed coordination map (07; 08 R145). -/

namespace Sys2Proof.Machine

/-- "While the section's coordination is COORDINATED, every change of the announced set is handed to the link
controller": BLOCK_ADD for a tag that joined, BLOCK_DEL for one that left (07 R124). -/
def State.announce (s before : State) (f : Feeder) : State :=
  if s.sections[f].coord = .coordinated then
    let old := before.announced f
    let new := s.announced f
    let t := (new.filter fun x => !old.contains x).foldl (fun s x => s.askFor f fun i => .blockAdd i x) s
    (old.filter fun x => !new.contains x).foldl (fun s x => s.askFor f fun i => .blockDel i x) t
  else s

/-! ## Peer blocks -/

/-- A request to add a peer tag (07 R127; the order of the entries: log 15). -/
def State.addPeer (s : State) (f : Feeder) (tag : Tag) : State :=
  let x := s.sections[f]
  if x.peers.contains tag then s.barFeeder f .blockOpen
  else if x.peers.length < Config.blockDepth then
    ((s.modSection f fun x => { x with peers := x.peers ++ [tag] }).barFeeder f .blockOpen).append .blockPlaced (.sec f)
      .placedPeer tag.toNat
  else
    ((s.modSection f fun x => { x with overflow := true }).barFeeder f .blockOpen).append .blockPlaced (.sec f)
      .placedPeerOverflow tag.toNat

/-- A request to delete a peer tag (07 R128). -/
def State.delPeer (s : State) (f : Feeder) (tag : Tag) : State :=
  if s.sections[f].peers.contains tag then
    (s.modSection f fun x => { x with peers := x.peers.filter fun y => y != tag }).append .blockRemoved (.sec f)
      .removedPeer tag.toNat
  else s

/-- One entry for each tag of a list. -/
def State.tagEntries (s : State) (f : Feeder) (k : Kind) (d : Detail) (tags : List Tag) : State :=
  tags.foldl (fun s t => s.append k (.sec f) d t.toNat) s

/-- The entries of a changed overflow mark; BLOCK_PLACED carries the tag that the mark stands for, BLOCK_REMOVED 0 (07
R128, R133; log 15). -/
def State.overflowEntry (s : State) (f : Feeder) (was now : Bool) (tag : Tag) : State :=
  if now && !was then s.append .blockPlaced (.sec f) .placedPeerOverflow tag.toNat
  else if was && !now then s.append .blockRemoved (.sec f) .removedPeerOverflow 0
  else s

/-- A request to replace the peer list by the neighbour's announced set (07 R128; the order of the entries, and of the
tags that leave, as they stood in the list: log 15). -/
def State.replacePeers (s : State) (f : Feeder) (tags : List Tag) : State :=
  let x := s.sections[f]
  let distinct := ascending tags
  let new := distinct.take Config.blockDepth
  let more := decide (Config.blockDepth < distinct.length)
  let t := s.modSection f fun x => { x with peers := new, overflow := more }
  let t := if t.sections[f].holdsPeer then t.barFeeder f .blockOpen else t
  (((t.tagEntries f .blockRemoved .removedPeer (x.peers.filter fun y => !new.contains y)).tagEntries f .blockPlaced
    .placedPeer (new.filter fun y => !x.peers.contains y))).overflowEntry f x.overflow more
    (distinct.getD Config.blockDepth 0)

/-- A request to write the peer summary, which can clear the overflow mark (07 R129). -/
def State.writeSummary (s : State) (f : Feeder) (y : Summary) : State :=
  let t := s.modSection f fun x => { x with summary := some ⟨y.closed, y.earthed⟩ }
  let x := t.sections[f]
  if x.overflow && decide (y.count + (if y.earthed then 1 else 0) ≤ x.peers.length) then
    (t.modSection f fun x => { x with overflow := false }).overflowEntry f true false 0
  else t

/-! ## Coordination (07 R130) -/

/-- Every mapped section is COORDINATED. -/
def State.allCoordinated (s : State) : Bool :=
  feeders.all fun f => s.sections[f].mapping.isNone || s.sections[f].coord = .coordinated

/-- The lockout demand that a new value of a section's coordination makes (07 R130). -/
def State.coordDemand (s : State) (f : Feeder) (v : Coordination) : State :=
  match v with
  | .uncoordinated => s.lockoutDemand f .peerLost
  | .mismatch => s.lockoutDemand f .mismatch
  | .single => s
  | .coordinated => s

/-- A section's coordination takes a value (07 R130); `standing` says whether every section mapped just before the
change was COORDINATED. The LOCKOUT entry of the demand comes before COORDINATION (log 38). -/
def State.setCoordination (s : State) (f : Feeder) (v : Coordination) (standing : Bool) : State :=
  if s.sections[f].coord = v then s
  else
    let t := s.modSection f fun x =>
      { x with
        coord := v
        summary := if v = .uncoordinated ∨ v = .single then none else x.summary }
    ((t.coordDemand f v).append .coordination (.sec f) (.coordination v)
      (match s.sections[f].mapping with
        | some m => m.index.val
        | none => -1)).onsetIf
      (standing && s.sections[f].mapping.isSome && v != .coordinated) .uncoordinated

/-- A section whose effective mapping changed: its lists are emptied where its link or index changed, and it takes the
new link, index and role (07 R130; the removed tags in the order of the list, before COORDINATION: log
15). -/
def State.remapSection (s : State) (f : Feeder) (new : Option Mapping) : State :=
  let x := s.sections[f]
  let standing := s.allCoordinated
  let keeps := match x.mapping, new with
    | some a, some b => a.samePair b
    | none, none => true
    | _, _ => false
  if keeps then s.modSection f fun x => { x with mapping := new }
  else
    let t := s.modSection f fun x => { x with mapping := new, peers := [], overflow := false, summary := none }
    ((t.tagEntries f .blockRemoved .removedPeer x.peers).overflowEntry f x.overflow false 0).setCoordination f
      (if new.isSome then .uncoordinated else .single) standing

/-- A pair of link and index that no longer maps to the same feeder: its outstanding intertrip is cancelled without a
lockout demand, and its last received trip id becomes absent (08 R145). -/
def State.dropIndex (s : State) (l : Link) (i : Index) : State :=
  let t := s.modIndex l i fun x => { x with out := none, lastRx := none }
  match (s.links.get l).idx[i].out with
  | some o => t.append .intertripUnack (.sec o.feeder) .unackMapChanged o.id.toNat
  | none => t

/-- The link-section indices. -/
def indices : List Index := [0, 1, 2, 3]

/-- The links. -/
def linkNames : List Link := [.u, .d]

/-- The indices of the links that lose their feeder (08 R145). -/
def State.dropLost (s before : State) : State :=
  linkNames.foldl (fun s l => indices.foldl (fun s i =>
    if (before.feederAt l i).isSome ∧ s.feederAt l i ≠ before.feederAt l i then s.dropIndex l i else s) s) s

/-- A link that gains its first mapped feeder while it is not UP is an onset of its condition (08 R145). -/
def State.gainedLinks (s before : State) : State :=
  linkNames.foldl (fun s l =>
    s.onsetIf (s.mappedTo l && !before.mappedTo l && (s.links.get l).state != .up) (linkLatch l)) s

/-- The effective coordination map is formed again after an accepted write (08 R144, R145). The sections that move are taken
lowest feeder first, then the lost indices, U before D (log 12). -/
def State.remap (s : State) : State :=
  let t := feeders.foldl (fun s f =>
    if s.sections[f].mapping = s.settings.mapping f then s else s.remapSection f (s.settings.mapping f)) s
  ((t.dropLost s).gainedLinks s).onsetIf s.settings.mapLoss .settingsClamped

/-- Whether a write to the map would move a feeder that is not OPEN or LOCKED: its link, index or role in the effective map
would differ (08 R145; the role setting of an unmapped feeder: log 33). -/
def State.remapRefused (s : State) (new : Settings) : Bool :=
  feeders.any fun f =>
    s.sections[f].mapping != new.mapping f && s.fstate f != .opened && s.fstate f != .locked

end Sys2Proof.Machine
end

