-- ==== Sys2Proof/Machine/Clock.lean ====
section
/-! DEFINITION. What an empty queue leaves to happen: a trip request on its way, the command of one event that has come
due, or one reference tick (log 1, log 10). -/

namespace Sys2Proof.Machine

/-! ## Events that have come due -/

/-- The command of the deadline of the present tracker state (02 R21, R23, R24). -/
def TrackerState.deadlineCommand : TrackerState → Option Instr
  | .unsync => none
  | .acquire => some .acquireDeadlineExpiry
  | .locked => some .lockedDeadlineExpiry
  | .holdover => some .holdoverDeadlineExpiry

/-- A command, where its event has come due. -/
def due (c : Bool) (i : Instr) : List Instr := if c then [i] else []

/-- The due events of the sample unit, the tracker and the rectifier controller. -/
def State.dueSupply (s : State) : List Instr :=
  due (expired s.sample.watchdog) .sampleWatchdogExpiry ++ due (expired s.sample.blindTimer) .blindTimerExpiry
    ++ (if s.tracker.deadline.any s.reached then s.tracker.state.deadlineCommand.toList else [])
    ++ (([0, 1, 2, 3, 4, 5, 6, 7, 8, 9, 10, 11] : List Gate).flatMap fun g =>
        due (s.rect.gates[g].endAt.any s.reached) (.gatePulseEnd g))
    ++ ((s.rect.schedule.filter fun q => s.reached q.start).map fun q => .gatePulseStart q.gate)
    ++ due (expired s.rect.restart) .restartWindowExpiry
    ++ due (expired s.rect.test.driveTimer) .gateTestDriveEnd ++ due (expired s.rect.test.stepTimer) .gateTestStepEnd

/-- The due events of a feeder. -/
def State.dueFeeder (s : State) (f : Feeder) : List Instr :=
  due (expired s.ctx[f].tripTimer) (.tripSupervisionExpiry f)
    ++ due (expired s.ctx[f].closeTimer) (.closeSupervisionExpiry f)
    ++ due (expired s.ctx[f].deadTimer) (.deadTimeExpiry f) ++ due (expired s.ctx[f].reclaimTimer) (.reclaimExpiry f)
    ++ due (expired s.ctx[f].followTimer) (.followWaitExpiry f)

/-- The due events of a link. -/
def State.dueLink (s : State) (l : Link) : List Instr :=
  let k := s.links.get l
  due (expired k.silence) (.resetSilenceEnd l) ++ due (expired k.loss) (.lossTimerExpiry l)
    ++ (indices.flatMap fun i => due (k.idx[i].out.any fun o => o.retry = 0) (.retryExpiry l i))
    ++ due (expired k.heartbeat) (.heartbeatExpiry l) ++ due (expired k.refresh) (.refreshExpiry l)

/-- The events that have come due, in the order in which the model takes them (log 1). -/
def State.dueNow (s : State) : List Instr :=
  s.dueSupply ++ feeders.flatMap s.dueFeeder ++ due (expired s.lineTest.timer) .lineTestExpiry ++ s.dueLink .u
    ++ s.dueLink .d

/-! ## One reference tick -/

/-- A running timer loses one tick. -/
def tickDown (t : Option Nat) : Option Nat := t.map fun n => n - 1

/-- The counters of time (02 R14, 09 R157). -/
def Clock.tick (c : Clock) : Clock :=
  if Config.ticksPerMs ≤ c.sub + 1 then ⟨c.stamp + 1, c.ms + 1, 0⟩ else ⟨c.stamp + 1, c.ms, c.sub + 1⟩

/-- The five timers of a context. -/
def Context.tick (c : Context) : Context :=
  { c with
    tripTimer := tickDown c.tripTimer
    closeTimer := tickDown c.closeTimer
    deadTimer := tickDown c.deadTimer
    reclaimTimer := tickDown c.reclaimTimer
    followTimer := tickDown c.followTimer }

/-- The timers of a link. -/
def LinkUnit.tick (k : LinkUnit) : LinkUnit :=
  { k with
    silence := tickDown k.silence
    heartbeat := tickDown k.heartbeat
    loss := tickDown k.loss
    refresh := tickDown k.refresh
    idx := Vector.ofFn fun i => { k.idx[i] with out := k.idx[i].out.map fun o => { o with retry := o.retry - 1 } } }

/-- One reference tick of 0.1 µs passes. -/
def State.tick (s : State) : State :=
  { s with
    time := s.time.tick
    sample := { s.sample with watchdog := tickDown s.sample.watchdog, blindTimer := tickDown s.sample.blindTimer }
    rect :=
      { s.rect with
        restart := tickDown s.rect.restart
        test :=
          { s.rect.test with
            stepTimer := tickDown s.rect.test.stepTimer, driveTimer := tickDown s.rect.test.driveTimer } }
    ctx := Vector.ofFn fun f => s.ctx[f].tick
    lineTest := { s.lineTest with timer := tickDown s.lineTest.timer }
    links := ⟨s.links.u.tick, s.links.d.tick⟩ }

/-- What the block does on an empty queue: the oldest trip request on its way reaches the sequencer (log 10), or the first
due event's command joins the queue, or a tick passes (log 1). -/
def State.idle (s : State) : State :=
  match s.trips.calls with
  | r :: rest => ((s.modTrips fun q => { q with calls := rest }).takeTrip r).settle
  | [] =>
    match s.dueNow with
    | c :: _ => { s with pending := [c] }
    | [] => s.tick

end Sys2Proof.Machine
end

