-- ==== Sys2Proof/Machine/PortOps.lean ====
section
/-! DEFINITION. The transaction of a port, and how a command takes effect in it (10 R173 to R176; log 6, log 7). -/

namespace Sys2Proof.Machine

/-! ## The select line and the bytes (10 R173 to R175) -/

/-- The phase is one in which a raised select line discards the request (10 R174). -/
def Phase.discards : Phase → Bool
  | .status | .request => true
  | .idle | .response => false

/-- The select line is raised: an incomplete request is discarded and sets the frame-error flag; the phase becomes IDLE
(10 R173, R174). -/
def State.raiseSelect (s : State) (p : Port) : State :=
  let t : State := { s with inputs := Inputs.setSelect s.inputs p false }
  t.modPort p fun u => { u with phase := .idle, buffer := [], frameError := u.frameError || u.phase.discards }

/-- The select line goes low: a transaction begins, and no bit has been clocked yet (10 R173, R175). -/
def State.lowerSelect (s : State) (p : Port) : State :=
  let t : State := { s with inputs := Inputs.setSelect s.inputs p true }
  t.modPort p fun u => { u with phase := .status, buffer := [] }

/-- The first byte is clocked: the status byte is formed "as it stands when the first bit of the byte is clocked out",
and "The frame-error flag is cleared when a status byte that shows it set has been clocked out whole" (10 R175; the eight
bits are one event: log 6). -/
def State.firstByte (s : State) (p : Port) : State :=
  s.modPort p fun u => { u with shown := s.statusByte p, frameError := false }

/-- The bytes of a request that is not complete: fewer than its request length (10 R173; log 7). -/
def incomplete : List Byte → List Byte
  | [] => []
  | code :: rest => (code :: rest).take (requestLength code - 1)

/-- The bytes received before the request is complete (10 R173). -/
def State.receiveBytes (s : State) (p : Port) (bytes : List Byte) : State :=
  match incomplete bytes with
  | [] => s
  | bs => (s.firstByte p).modPort p fun u => { u with phase := .request, buffer := bs }

/-! ## Commands (10 R173, R176) -/

/-- The judgement of a command: the state it leaves, its result and the data of its response. -/
structure Reply where
  state : State
  result : Result
  data : List Byte

/-- "A refused command changes nothing" (10 R176). -/
def State.refuse (s : State) (r : Result) : Reply := ⟨s, r, []⟩

/-- A command answered OK with data. -/
def State.answer (s : State) (data : List Byte) : Reply := ⟨s, .ok, data⟩

/-- A command answered ACCEPTED without data. -/
def State.accept (s : State) : Reply := ⟨s, .accepted, []⟩

/-- An authority command is refused on the port that does not hold the switching authority (07 R131, 10 R176). -/
def State.authorised (s : State) (p : Port) (act : Reply) : Reply :=
  if s.authority = p then act else s.refuse .notPermitted

/-- The bytes of a command's request (11.3). -/
def requestOf (c : Instr) : List Byte := ((encodeRequest c).map Prod.snd).getD []

/-- The present transaction has received a beginning of this request. -/
def PortUnit.continues (u : PortUnit) (req : List Byte) : Bool := u.phase.discards && u.buffer.isPrefixOf req

/-- The request is received up to its last byte, in the transaction under way where that has received a beginning of
it, else in a new one (10 R173; log 6). -/
def State.receiveRequest (s : State) (p : Port) (req : List Byte) : State :=
  let u := s.ports.get p
  if u.continues req then if u.buffer.isEmpty then s.firstByte p else s
  else ((s.raiseSelect p).lowerSelect p).firstByte p

/-- The response is formed: the result code, and the data where the result carries it (10 R173, 11 R187). -/
def Reply.respond (r : Reply) (p : Port) (req : List Byte) : State :=
  r.state.modPort p fun u => { u with phase := .response, buffer := req, response := r.result.code :: r.data }

/-- The byte clocked out at a place of the transaction, the first being 0: the status byte, then "The bytes clocked out
during REQUEST are 0", the response, and 0 once it "has been clocked out whole" (10 R173). -/
def PortUnit.clockedOut (u : PortUnit) (place : Nat) : Byte :=
  if place = 0 then u.shown
  else if u.phase = .response ∧ u.buffer.length ≤ place then u.response.getD (place - u.buffer.length) 0
  else 0

/-- A port command takes effect as the last byte of its request is received (10 R173). -/
def State.serve (s : State) (p : Port) (c : Instr) (judge : State → Reply) : State :=
  (judge (s.receiveRequest p (requestOf c))).respond p (requestOf c)

end Sys2Proof.Machine
end

