-- ==== Sys2Proof/Machine/JournalUnit.lean ====
section
/-! DEFINITION. The journal and the recorder as a port uses them: the meanings of the journal commands and of
READ_RECORD (09; layouts: 11.3, 11.5, log 9). -/

namespace Sys2Proof.Machine

/-! ## Readers (09 R160 to R163) -/

/-- "the sequence number of the oldest entry present, or the sequence counter when the journal is empty" (09 R160). -/
def State.firstSeq (s : State) : Stamp := (s.journal.entries.head?.map Entry.seq).getD s.journal.seq

/-- ATTACH_JOURNAL on the calling port's reader (09 R160). -/
def State.attach (s : State) (p : Port) : Reply :=
  if (s.readers.get p).cursor.isSome then (s.modReader p fun r => { r with cursor := some s.firstSeq }).answer []
  else (s.modReader p fun r => { r with cursor := some s.firstSeq, lost := 0 }).accept

/-- ATTACH_JOURNAL (09 R160). -/
def execAttachJournal (p : Port) (s : State) : Answer :=
  .next (s.serve p (.attachJournal p) fun s => s.attach p)

/-- DETACH_JOURNAL on the calling port's reader (09 R161). -/
def State.detach (s : State) (p : Port) : Reply :=
  if (s.readers.get p).cursor.isSome then (s.modReader p fun r => { r with cursor := none }).retire.accept
  else s.answer []

/-- DETACH_JOURNAL (09 R161). -/
def execDetachJournal (p : Port) (s : State) : Answer :=
  .next (s.serve p (.detachJournal p) fun s => s.detach p)

/-- FETCH_EVENT on the calling port's reader: the entry at the cursor and the number of unread entries that remain (09
R162). -/
def State.fetch (s : State) (p : Port) : Reply :=
  match s.unread p with
  | [] => ⟨s, .empty, []⟩
  | e :: rest =>
    (s.modReader p fun r => { r with cursor := some (e.seq + 1) }).retire.answer (e.bytes ++ bytes16 rest.length)

/-- FETCH_EVENT (09 R162). -/
def execFetchEvent (p : Port) (s : State) : Answer :=
  .next (s.serve p (.fetchEvent p) fun s => s.fetch p)

/-- SET_ATTENTION_MASK: "A mask that names a position that belongs to no class is refused" (09 R163). -/
def State.setMask (s : State) (p : Port) (mask : Byte) : Reply :=
  if mask.getLsbD 6 || mask.getLsbD 7 then s.refuse .badArgument
  else (s.modReader p fun r => { r with mask := mask }).accept

/-- SET_ATTENTION_MASK (09 R163). -/
def execSetAttentionMask (p : Port) (mask : Byte) (s : State) : Answer :=
  .next (s.serve p (.setAttentionMask p mask) fun s => s.setMask p mask)

/-! ## Reading (09 R164, R171) -/

/-- The number of a slot state (09, 9.3; 11.5). -/
def SlotState.number : SlotState → Nat
  | .free => 0 | .filling => 1 | .sealed => 2

/-- A reader as READ_JOURNAL_STATE returns it (09 R164). -/
def State.readerBytes (s : State) (p : Port) : List Byte :=
  let r := s.readers.get p
  flag r.cursor.isSome ++ optional 4 (r.cursor.map bytesStamp) ++ bytes16 (s.unread p).length ++ bytes16 r.lost
    ++ [r.mask]

/-- A slot as READ_JOURNAL_STATE returns it (09 R164; log 9). -/
def State.slotBytes (s : State) (k : Fin 8) : List Byte :=
  let x := s.slots[k]
  byte x.state.number ++ optional 5 (if x.state = .free then none
    else some (byte (feederNo x.feeder) ++ bytesStamp ((s.refSeq k).getD 0)))

/-- The data of READ_JOURNAL_STATE, in the order of 09 R164. -/
def State.journalBytes (s : State) : List Byte :=
  bytes16 s.journal.entries.length ++ optional 4 (s.journal.entries.head?.map fun e => bytesStamp e.seq)
    ++ optional 4 (s.journal.entries.getLast?.map fun e => bytesStamp e.seq) ++ bytesStamp s.journal.seq
    ++ bytesStamp s.time.ms ++ s.readerBytes .s ++ s.readerBytes .c
    ++ ([0, 1, 2, 3, 4, 5, 6, 7] : List (Fin 8)).flatMap s.slotBytes

/-- READ_JOURNAL_STATE (09 R164). -/
def execReadJournalState (p : Port) (s : State) : Answer :=
  .next (s.serve p (.readJournalState p) fun s => s.answer s.journalBytes)

/-- The 12-byte header of a record (11.5). -/
def State.recordHeader (s : State) (k : Fin 8) : List Byte :=
  let x := s.slots[k]
  byte x.state.number ++ byte (feederNo x.feeder) ++ byte x.cause.code ++ [x.trigger] ++ byte x.pre ++ byte x.post
    ++ byte x.gaps ++ flag x.truncated ++ bytesStamp ((s.refSeq k).getD 0)

/-- READ_RECORD on its three numbers (09 R171). -/
def State.readRecord (s : State) (slot first count : Nat) : Reply :=
  if h : slot < 8 then
    if count < 1 ∨ 16 < count then s.refuse .badArgument
    else
      let k : Fin 8 := ⟨slot, h⟩
      if s.slots[k].state = .free then s.refuse .state
      else if s.slots[k].pairs.length < first + count then s.refuse .badArgument
      else s.answer (s.recordHeader k ++ ((s.slots[k].pairs.drop first).take count).flatMap Pair.bytes)
  else s.refuse .badArgument

/-- READ_RECORD (09 R171). -/
def execReadRecord (p : Port) (slot first count : Byte) (s : State) : Answer :=
  .next (s.serve p (.readRecord p slot first count) fun s => s.readRecord slot.toNat first.toNat count.toNat)

end Sys2Proof.Machine
end

