-- ==== Sys2Proof/Machine/FeederUnit.lean ====
section
/-! DEFINITION. The breaker sequencer and the line test unit: the meanings of the breaker position events, of the
feeder timers and of the feeder commands (05, 06). -/

namespace Sys2Proof.Machine

/-! ## The breaker shows open (05 R85, R88, R96; 07 R122) -/

/-- An open position completes the trip of a STUCK feeder (05 R96; log 13). -/
def State.stuckOpens (s : State) (f : Feeder) : State :=
  (s.append .opened (.feeder f)
    (match s.ctx[f].lastTrip with
      | some c => .tripCause c
      | none => .none) 0).enterLocked f .breakerFail

/-- What an open position does to the context (05 R85, R88, R96). -/
def State.contextOpens (s : State) (f : Feeder) : State :=
  match s.fstate f with
  | .tripping => s.completeTrip f
  | .closed => s.protectionTrip f .selfTrip (s.newestHeld f) s.newestSeq s.disc[f].blank
  | .stuck => s.stuckOpens f
  | .opened => s
  | .locked => s
  | .deadTime => s
  | .queued => s
  | .testing => s
  | .waitPeer => s
  | .closing => s

/-- The WAITING entries of the section become ACTIVE, "in list order" (07 R122). -/
def State.activateBlocks (s : State) (f : Feeder) : State :=
  (s.sections[f].blocks.filter fun b => !b.active).foldl
    (fun s b => s.append .blockPlaced (.sec f) (.blockActivated b.origin) b.tag.toNat)
    (s.modSection f fun x => { x with blocks := x.blocks.map fun b => { b with active := true } })

/-- The breaker position input of a feeder. -/
def State.showBreaker (s : State) (f : Feeder) (closed : Bool) : State :=
  { s with inputs := { s.inputs with breaker := s.inputs.breaker.set f closed } }

/-- BREAKER_POSITION_OPEN (05 R85, R88, R96; 07 R122; log 5, log 12). -/
def execBreakerPositionOpen (f : Feeder) (s : State) : Answer :=
  if s.shows f then .next (((s.showBreaker f false).contextOpens f).activateBlocks f).settle
  else .next s

/-! ## The breaker shows closed (05 R93, R97; 04 R58) -/

/-- The close under way has succeeded (05 R93). -/
def State.closeDone (s : State) (f : Feeder) : State :=
  let c := s.ctx[f]
  let t := s.modCtx f fun c =>
    { c with
      state := .closed
      closeTimer := none
      reclaimTimer := if c.auto then some (secTicks (s.settings.f f .reclaimTime)) else none }
  let t := if c.auto && s.coordinatedAs f .lead then t.askFor f .restored else t
  t.append .closed (.feeder f) (if c.auto then .closedAutomatic else .closedPort) c.count

/-- An unexpected close (05 R97; one that is tripped keeps the reclose count: log 37; an aborted test gives its entry
first: log 38). -/
def State.unexpectedClose (s : State) (f : Feeder) : State :=
  let t := s.undoReclose f
  if s.barred f || s.inputs.eoff then (t.modCtx f fun c => { c with lock := none }).trip f .interlock .opened 0 0
  else
    (t.modCtx f fun c => { c with state := .closed, lock := none, count := 0, auto := false }).append .closed (.feeder f)
      .closedUnexpected 0

/-- What a closed position does to the context (05 R93, R97). -/
def State.contextCloses (s : State) (f : Feeder) : State :=
  match s.fstate f with
  | .closing => s.closeDone f
  | .opened => s.unexpectedClose f
  | .locked => s.unexpectedClose f
  | .deadTime => s.unexpectedClose f
  | .queued => s.unexpectedClose f
  | .testing => s.unexpectedClose f
  | .waitPeer => s.unexpectedClose f
  | .closed => s
  | .tripping => s
  | .stuck => s

/-- The close-blank count is loaded with close_blank (04 R58). -/
def State.loadBlank (s : State) (f : Feeder) : State :=
  s.modDisc f fun d => { d with blank := (s.settings.f f .closeBlank).toNat }

/-- BREAKER_POSITION_CLOSED (05 R93, R97; 04 R58; log 5). -/
def execBreakerPositionClosed (f : Feeder) (s : State) : Answer :=
  if s.shows f then .next s
  else .next (((s.showBreaker f true).loadBlank f).contextCloses f).settle

/-! ## The timers of a context (05 R86, R89, R93, R94; log 2) -/

/-- DEAD_TIME_EXPIRY (05 R89). -/
def execDeadTimeExpiry (f : Feeder) (s : State) : Answer :=
  if !expired s.ctx[f].deadTimer then .next s
  else
    let t := s.modCtx f fun c => { c with deadTimer := none }
    if s.fstate f = .deadTime ∧ s.ctx[f].wait = some .timed then .next (t.deadTimeEnd f).settle else .next t

/-- A close that was not made in time (05 R93). -/
def State.closeFails (s : State) (f : Feeder) : State :=
  if s.ctx[f].auto then s.failedAttempt f .failedSupervision
  else (s.modCtx f Context.toOpened).append .closeFailed (.feeder f) .failedPort 0

/-- CLOSE_SUPERVISION_EXPIRY (05 R93). -/
def execCloseSupervisionExpiry (f : Feeder) (s : State) : Answer :=
  if !expired s.ctx[f].closeTimer then .next s
  else
    let t := s.modCtx f fun c => { c with closeTimer := none }
    if s.fstate f = .closing then .next (t.closeFails f).settle else .next t

/-- RECLAIM_EXPIRY: "Expiry of the reclaim timer in CLOSED sets the reclose count to 0" (05 R93). -/
def execReclaimExpiry (f : Feeder) (s : State) : Answer :=
  if !expired s.ctx[f].reclaimTimer then .next s
  else
    .next (s.modCtx f fun c =>
      { c with reclaimTimer := none, count := if c.state = .closed then 0 else c.count })

/-- FOLLOW_WAIT_EXPIRY (05 R86). -/
def execFollowWaitExpiry (f : Feeder) (s : State) : Answer :=
  if !expired s.ctx[f].followTimer then .next s
  else
    let t := s.modCtx f fun c => { c with followTimer := none }
    if s.fstate f = .waitPeer then .next (t.enterLocked f .peerTimeout) else .next t

/-- The backup trip of another feeder (05 R94 step 2). -/
def State.backupTrip (s : State) (f : Feeder) : State :=
  if s.fstate f = .closed ∨ s.fstate f = .closing then s.trip f .bfBackup (.locked .bfBackup) 0 0 else s

/-- A breaker that will not open is escalated, in the order of 05 R94 (the value: log 14; the backup trips of step 2, the
lowest feeder first: log 12). -/
def State.escalate (s : State) (f : Feeder) : State :=
  let t := (s.modCtx f fun c => { c with state := .stuck, followTimer := none }).blockRequest .breakerFail none
  let t := (feeders.filter fun g => g != f).foldl State.backupTrip t
  let t := if t.sections[f].coord = .coordinated then t.sendTripReq f else t
  t.append .breakerFail (.feeder f)
    (match t.ctx[f].lastTrip with
      | some c => .tripCause c
      | none => .none) (t.g .tripTimeMax)

/-- TRIP_SUPERVISION_EXPIRY (05 R94). -/
def execTripSupervisionExpiry (f : Feeder) (s : State) : Answer :=
  if !expired s.ctx[f].tripTimer then .next s
  else
    let t := s.modCtx f fun c => { c with tripTimer := none }
    if s.fstate f = .tripping then .next (t.escalate f) else .next t

/-! ## Commands to a feeder (05 R92, R98) -/

/-- A command that names a feeder outside 1 to 6 is refused with BAD_ARGUMENT (10 R176). -/
def State.forFeeder (s : State) (b : Byte) (act : Feeder → Reply) : Reply :=
  match feederOf b with
  | some f => act f
  | none => s.refuse .badArgument

/-- The line is live for CLOSE_FEEDER: v_line reads as a value of at least live_level (05 R92). -/
def State.lineLive (s : State) (f : Feeder) : Bool := (s.reading (chV f)).any fun v => s.g .liveLevel ≤ v

/-- CLOSE_FEEDER, judged by the context state and the interlock (05 R92). -/
def State.closeFeeder (s : State) (f : Feeder) : Reply :=
  if s.fstate f = .locked then s.refuse .lockedOut
  else if s.fstate f ≠ .opened then s.refuse .busy
  else if s.interlock f false ≠ .pass then s.refuse (s.interlock f false).result
  else
    let t := s.modCtx f fun c => { c with count := 0, auto := false }
    (if s.lineLive f then t.enterClosing f else t.joinQueue f false).accept

/-- CLOSE_FEEDER (05 R92). -/
def execCloseFeeder (p : Port) (feeder : Byte) (s : State) : Answer :=
  .next (s.serve p (.closeFeeder p feeder) fun s => s.authorised p (s.forFeeder feeder s.closeFeeder)).settle

/-- OPEN_FEEDER by the context state (05 R98). -/
def State.openFeeder (s : State) (f : Feeder) : Reply :=
  match s.fstate f with
  | .closed => (s.commandedOpen f .command).accept
  | .closing => (s.commandedOpen f .command).accept
  | .deadTime => (s.commandedOpen f .command).accept
  | .queued => (s.commandedOpen f .command).accept
  | .waitPeer => (s.commandedOpen f .command).accept
  | .testing => (s.commandedOpen f .command).accept
  | .opened => s.answer []
  | .locked => s.answer []
  | .tripping => s.answer []
  | .stuck => s.answer []

/-- OPEN_FEEDER, from either port (05 R98). -/
def execOpenFeeder (p : Port) (feeder : Byte) (s : State) : Answer :=
  .next (s.serve p (.openFeeder p feeder) fun s => s.forFeeder feeder s.openFeeder).settle

/-- RESET_LOCKOUT of a feeder (05 R98). -/
def State.resetFeeder (s : State) (f : Feeder) : Reply :=
  if s.fstate f ≠ .locked then s.refuse .state
  else if s.ctx[f].lock = some .eoff && s.inputs.eoff then s.refuse .eoff
  else
    ((s.modCtx f fun c => { c with state := .opened, lock := none, count := 0 }).append .lockoutReset (.feeder f)
      (match s.ctx[f].lock with
        | some c => .lockCause c
        | none => .none) 0).accept

end Sys2Proof.Machine
end

