-- ==== Sys2Proof/Machine/RectifierUnit.lean ====
section
/-! DEFINITION. The rectifier controller: the meanings of the gate events, of the AC breaker and EOFF inputs, of the
gate test and of the rectifier commands (03). -/

namespace Sys2Proof.Machine

/-! ## Gate events (03 R44, R45) -/

/-- "A thyristor gate is pulsed only in two situations"; this is the first, of the firing states (03 R44). -/
def State.mayFire (s : State) : Bool :=
  s.rect.state.firing && (s.tracker.state = .locked || s.tracker.state = .holdover) && !s.inputs.eoff
    && s.inputs.acClosed

/-- The length of a pulse train, "floor(1,200 × P / 3,600) ticks at the P of its period" (03 R44). -/
def Rectifier.trainTicks (r : Rectifier) : Int := 1200 * (r.period.map Period.p).getD 0 / 3600

/-- The pending pulse of a gate. -/
def Rectifier.pulseOf (r : Rectifier) (g : Gate) : Option Pulse := r.schedule.find? fun q => q.gate = g

/-- A pulse leaves the schedule. -/
def Rectifier.takePulse (r : Rectifier) (g : Gate) : Rectifier :=
  { r with schedule := r.schedule.filter fun q => q.gate != g }

/-- The gate output is driven and the seen mark cleared (03 R44, R45). -/
def State.drivePulse (s : State) (q : Pulse) : State :=
  s.modGate q.gate fun x =>
    { x with
      driven := true
      endAt := some (q.start + BitVec.ofInt 32 s.rect.trainTicks)
      seen := false
      fired := true }

/-- GATE_PULSE_START: "A scheduled pulse begins at its start time" (03 R44); nothing for a gate without a pending pulse,
or before that time (log 2). -/
def execGatePulseStart (g : Gate) (s : State) : Answer :=
  match s.rect.pulseOf g with
  | none => .next s
  | some q =>
    let t := s.modRect fun r => r.takePulse g
    .next (if !s.reached q.start then s else if s.mayFire then t.drivePulse { q with gate := g } else t)

/-- GATE_PULSE_END: the pulse train of a gate ends (03 R44); nothing for a gate without a train, or before its
end (log 2). -/
def execGatePulseEnd (g : Gate) (s : State) : Answer :=
  if !s.rect.gates[g].endAt.any s.reached then .next s
  else .next (s.modGate g fun x => { x with driven := false, endAt := none })

/-- GATE_FEEDBACK: it sets the mark of a pulse of this period that is driven; during a gate test it shows in the step;
elsewhere it "has no effect outside a gate test" (03 R45, R51). -/
def execGateFeedback (g : Gate) (s : State) : Answer :=
  if s.rect.state = .gateTest then .next (s.modTest fun t => { t with feedback := t.feedback.set g true })
  else if s.rect.gates[g].driven && s.rect.gates[g].fired then .next (s.modGate g fun x => { x with seen := true })
  else .next s

/-! ## START_RECTIFIER and STOP_RECTIFIER (03 R30, R31) -/

/-- The checks of START_RECTIFIER, "and the first that applies gives the result" (03 R30). -/
def State.startRectifier (s : State) : Reply :=
  if s.rect.state = .starting ∨ s.rect.state = .running then s.answer []
  else if s.rect.state = .shifting ∨ s.rect.state = .gateTest then s.refuse .busy
  else if s.startHold then s.refuse .hold
  else if s.lockedOut then s.refuse .lockedOut
  else if s.inputs.eoff then s.refuse .eoff
  else if !s.inputs.acClosed then s.refuse .acOpen
  else if s.tracker.state ≠ .locked then s.refuse .noSync
  else if s.rect.state = .blocked ∧ s.rect.cause = some .blind ∧ s.sample.state = .blind then s.refuse .state
  else if !s.gateTestMet then s.refuse .state
  else (s.startUp .none).accept

/-- START_RECTIFIER (03 R30). -/
def execStartRectifier (p : Port) (s : State) : Answer :=
  .next (s.serve p (.startRectifier p) fun s => s.authorised p s.startRectifier)

/-- The table of STOP_RECTIFIER (03 R31). -/
def State.stopRectifier (s : State) : Reply :=
  match s.rect.state with
  | .stopped => s.answer []
  | .starting => (s.shiftTo .stopped none).accept
  | .running => (s.shiftTo .stopped none).accept
  | .shifting =>
    match s.rect.shiftEnd with
    | some (.blocked c) => if c.lockout then s.answer [] else (s.replaceEnd .stopped none).accept
    | _ => s.answer []
  | .blocked => if s.softCause then (s.enterStopped (.cause .stop)).accept else s.answer []
  | .gateTest => (s.abortGateTest.enterStopped (.cause .stop)).accept

/-- STOP_RECTIFIER (03 R31). -/
def execStopRectifier (p : Port) (s : State) : Answer :=
  .next (s.serve p (.stopRectifier p) State.stopRectifier)

/-! ## The restart window and the lockout (03 R35, R36) -/

/-- RESTART_WINDOW_EXPIRY: "Expiry of the window closes it" (03 R35; log 2). -/
def execRestartWindowExpiry (s : State) : Answer :=
  if !expired s.rect.restart then .next s else .next (s.modRect fun r => { r with restart := none })

/-- RESET_LOCKOUT of the rectifier (03 R36). -/
def State.resetRectifier (s : State) : Reply :=
  if !s.lockedOut then s.refuse .state
  else if s.rect.cause = some .eoff && s.inputs.eoff then s.refuse .eoff
  else ((s.modRect fun r => { r with demandBus := false, demandBreaker := false }).enterStopped .none).accept

/-- RESET_LOCKOUT_RECTIFIER (03 R36). -/
def execResetLockoutRectifier (p : Port) (s : State) : Answer :=
  .next (s.serve p (.resetLockoutRectifier p) fun s => s.authorised p s.resetRectifier)

/-! ## The AC breaker and emergency-off (03 R37, R38; 05 R99) -/

/-- AC_BREAKER_OPEN (03 R37); an input that shows open already does not change (log 5). -/
def execAcBreakerOpen (s : State) : Answer :=
  if s.inputs.acClosed then
    let t : State := { s with inputs := { s.inputs with acClosed := false } }
    .next t.acOpenRect
  else .next s

/-- AC_BREAKER_CLOSED: it aborts a gate test in progress (03 R37, R52; the STOPPED entry has no cause: log 35). -/
def execAcBreakerClosed (s : State) : Answer :=
  if s.inputs.acClosed then .next s
  else
    let t : State := { s with inputs := { s.inputs with acClosed := true } }
    .next (if t.rect.state = .gateTest then t.abortGateTest.enterStopped .none else t)

/-- EOFF_ASSERTED: the rectifier, the absorber output, the feeders, and the condition (03 R38, R49; 05 R99; 10 R178;
log 12). -/
def execEoffAsserted (s : State) : Answer :=
  if s.inputs.eoff then .next s
  else
    let t : State := { s with inputs := { s.inputs with eoff := true } }
    .next ((feeders.foldl State.eoffFeeder (t.eoffRect.absorberEdge s)).onset .eoffActive).settle

/-- EOFF_RELEASED: it "clears nothing in the rectifier" nor in the contexts; the absorber output follows its demand
again (03 R38, R49; 05 R99). -/
def execEoffReleased (s : State) : Answer :=
  if s.inputs.eoff then
    let t : State := { s with inputs := { s.inputs with eoff := false } }
    .next (t.absorberEdge s)
  else .next s

/-! ## The gate test (03 R50 to R52) -/

/-- An accepted GATE_TEST: the record is loaded and the first step begins (03 R50). -/
def State.beginGateTest (s : State) (repeats skip : Nat) : State :=
  ((s.modRect fun r =>
    { r with
      state := .gateTest
      test :=
        { r.test with
          result := .running, repeats := repeats, skip := skip, steps := 0, errors := Vector.replicate 12 0 } }).rectEntry
    .none none).beginGateStep

/-- The checks of GATE_TEST (03 R50). -/
def State.gateTest (s : State) (repeats skip : Nat) : Reply :=
  if repeats < 1 ∨ 16 < repeats ∨ 12 < skip then s.refuse .badArgument
  else if s.rect.state ≠ .stopped then s.refuse .state
  else if s.inputs.acClosed then s.refuse .acOpen
  else if s.inputs.eoff then s.refuse .eoff
  else (s.beginGateTest repeats skip).accept

/-- GATE_TEST (03 R50). -/
def execGateTest (p : Port) (repeats skip : Byte) (s : State) : Answer :=
  .next (s.serve p (.gateTest p repeats skip) fun s => s.authorised p (s.gateTest repeats.toNat skip.toNat))

/-- The judgement of one step: the step's own gate without feedback is MISSING, any other gate with feedback is STRAY
(03 R51). -/
def GateTest.judge (t : GateTest) : GateTest :=
  { t with
    stepTimer := none
    driveTimer := none
    steps := t.steps + 1
    errors := Vector.ofFn fun k =>
      if t.feedback[k] != decide (k = stepGate t.steps) then satInc 255 t.errors[k] else t.errors[k] }

/-- The end of the last step (03 R51). -/
def State.finishGateTest (s : State) : State :=
  let total := s.rect.test.errors.toList.sum
  let result := if total = 0 then GateTestResult.clean else .failed
  ((s.modTest fun t => { t with result := result }).append .gateTest .none (.gateTest result) total).enterStopped .none

/-- GATE_TEST_STEP_END (03 R51; log 2). -/
def execGateTestStepEnd (s : State) : Answer :=
  if !expired s.rect.test.stepTimer then .next s
  else if s.rect.state ≠ .gateTest then .next (s.modTest fun t => { t with stepTimer := none })
  else
    let k := stepGate s.rect.test.steps
    let t := (s.modGate k fun x => { x with driven := false }).modTest GateTest.judge
    .next (if t.rect.test.steps < t.rect.test.repeats * 12 then t.beginGateStep else t.finishGateTest)

/-- GATE_TEST_DRIVE_END: the driven half of a step ends (03 R51; log 2). -/
def execGateTestDriveEnd (s : State) : Answer :=
  if !expired s.rect.test.driveTimer then .next s
  else
    let t := s.modTest fun t => { t with driveTimer := none }
    .next (if s.rect.state = .gateTest then
      t.modGate (stepGate s.rect.test.steps) fun x => { x with driven := false } else t)

end Sys2Proof.Machine
end

