-- ==== Sys2Proof/Machine/Lockout.lean ====
section
/-! DEFINITION. RESET_LOCKOUT with a feeder as target, and the expiry of a line test (05 R98; 06 R109). -/

namespace Sys2Proof.Machine

/-- RESET_LOCKOUT_FEEDER (05 R98); target 0 names the rectifier (11.3; log 27). -/
def execResetLockoutFeeder (p : Port) (target : Byte) (s : State) : Answer :=
  .next (s.serve p (.resetLockoutFeeder p target) fun s =>
    s.authorised p (if target = 0 then s.resetRectifier else s.forFeeder target s.resetFeeder))

/-- LINE_TEST_EXPIRY (06 R109 to R111; log 2). -/
def execLineTestExpiry (s : State) : Answer :=
  if !expired s.lineTest.timer then .next s
  else
    match s.lineTest.tested with
    | some f => .next (s.endTest f).settle
    | none => .next (s.modLine fun u => { u with timer := none })

end Sys2Proof.Machine
end

