-- ==== Sys2Proof/Machine/LinkOps.lean ====
section
/-! DEFINITION. The operations of a peer link controller: taking a valid frame, the loss of the neighbour, and the
transmitter (08). -/

namespace Sys2Proof.Machine

/-! ## Counters and timers -/

/-- The bad-frame counter counts (08 R135). -/
def State.countBad (s : State) (l : Link) : State :=
  s.modLink l fun k => { k with badFrames := satInc Config.counterTop k.badFrames }

/-- The ignored-frame counter counts (08 R135). -/
def State.countIgnored (s : State) (l : Link) : State :=
  s.modLink l fun k => { k with ignored := satInc Config.counterTop k.ignored }

/-- link_loss_time in ticks. -/
def State.lossTicks (s : State) : Nat := msTicks (s.g .linkLossTime)

/-- "Every valid frame restarts the loss timer while the timer runs" (08 R135, R139). -/
def State.restartLoss (s : State) (l : Link) : State :=
  s.modLink l fun k => { k with loss := if k.loss.isSome then some s.lossTicks else none }

/-- A LINK_STATE entry (08 R154). -/
def State.linkEntry (s : State) (l : Link) (v : Int) : State :=
  s.append .linkState (.link l) (.linkState (s.links.get l).state) v

/-- The sections mapped to a link, lowest feeder first: the order in which 08 R142 steps 2 and 3, R143 step 2 and R152 take
them (log 12). -/
def State.sectionsOf (s : State) (l : Link) : List Feeder :=
  feeders.filter fun f => s.sections[f].mapping.any fun m => m.link = l

/-- The COORDINATED sections of a link. -/
def State.coordinatedOf (s : State) (l : Link) : List Feeder :=
  (s.sectionsOf l).filter fun f => s.sections[f].coord = .coordinated

/-! ## STATUS (08 R140 to R142) -/

/-- What a STATUS makes of a section, by the table of 08 R142. -/
def Mapping.evaluate (m : Mapping) (v : Vector Summary 4) : Coordination :=
  if v[m.index].configured && v[m.index].role != m.role then .coordinated else .mismatch

/-- Step 1: the peer summaries of the controller and of the section table (08 R142). -/
def State.takeSummaries (s : State) (l : Link) (v : Vector Summary 4) : State :=
  indices.foldl (fun s i =>
    let t := s.modIndex l i fun x => { x with summary := some v[i] }
    match t.feederAt l i with
    | some f => t.writeSummary f v[i]
    | none => t) s

/-- Step 2 for one section: the change of its coordination, if it is mapped to the link (08 R142). -/
def State.evaluateSection (s : State) (l : Link) (v : Vector Summary 4) (f : Feeder) : State :=
  match s.sections[f].mapping with
  | some m => if m.link = l then s.setCoordination f (m.evaluate v) s.allCoordinated else s
  | none => s

/-- Step 3: a BLOCK_SET for every section that became COORDINATED (08 R142). -/
def State.askBecame (s before : State) (l : Link) : State :=
  ((s.coordinatedOf l).filter fun f => before.sections[f].coord != .coordinated).foldl
    (fun s f => s.askFor f .blockSet) s

/-- A STATUS handled in UP, as one operation (08 R142). -/
def State.handleStatus (s : State) (l : Link) (v : Vector Summary 4) : State :=
  let t := s.takeSummaries l v
  ((t.sectionsOf l).foldl (fun s f => s.evaluateSection l v f) t).askBecame t l

/-- A valid STATUS outside the reset silence (08 R140 to R142). -/
def State.takeStatus (s : State) (l : Link) (v : Vector Summary 4) : State :=
  match (s.links.get l).state with
  | .down => (s.modLink l fun k => { k with state := .checking, loss := some s.lossTicks }).linkEntry l 0
  | .checking =>
    let t := (s.modLink l fun k => { k with state := .up, refresh := some Config.refreshTicks }).handleStatus l v
    t.linkEntry l (t.coordinatedOf l).length
  | .up => s.handleStatus l v

/-! ## Intertrips (08 R148, R149) -/

/-- An acknowledged intertrip: "A TRIP_ACK that matches nothing changes nothing" (08 R148), one whose index maps to no local
feeder included (log 32). -/
def State.takeTripAck (s : State) (l : Link) (i : Index) (id : Byte) : State :=
  match (s.links.get l).idx[i].out with
  | none => s
  | some o =>
    if o.id = id then
      (s.modIndex l i fun x => { x with out := none }).append .peerNotice (.sec o.feeder) .noticeTripAck id.toNat
    else s

/-- A new trip id acts on the section's feeder, by the table of 08 R149 (an aborted test gives its entry before
CLOSE_FAILED: log 38). -/
def State.intertripFeeder (s : State) (f : Feeder) (id : Byte) : State :=
  match s.fstate f with
  | .closed => s.protectionTrip f .intertripRx id.toNat s.newestSeq s.disc[f].blank
  | .deadTime => (s.undoReclose f).failedAttempt f .failedIntertrip
  | .queued => (s.undoReclose f).failedAttempt f .failedIntertrip
  | .testing => (s.undoReclose f).failedAttempt f .failedIntertrip
  | .waitPeer => (s.undoReclose f).failedAttempt f .failedIntertrip
  | .opened => s
  | .locked => s
  | .closing => s
  | .tripping => s
  | .stuck => s

/-- A valid TRIP_REQ outside the reset silence (08 R149). -/
def State.takeTripReq (s : State) (l : Link) (i : Index) (id : Byte) : State :=
  match s.feederAt l i with
  | none => s.countIgnored l
  | some f =>
    let t := s.ask l (.tripAck i id)
    if (s.links.get l).idx[i].lastRx = some id then t
    else
      ((t.modIndex l i fun x => { x with lastRx := some id }).append .intertripRx (.sec f) (.linkName l)
        id.toNat).intertripFeeder f id

/-! ## Restoration and permits (08 R150 to R153) -/

/-- A frame taken in CHECKING and UP for a mapped index, and ignored otherwise (08 R140, R150 to R153). -/
def State.takeFor (s : State) (l : Link) (i : Index) (act : State → Feeder → State) : State :=
  match s.feederAt l i with
  | none => s.countIgnored l
  | some f => if (s.links.get l).state = .down then s.countIgnored l else act s f

/-- A RESTORED notice (08 R150). -/
def State.restoredFeeder (s : State) (f : Feeder) : State :=
  let t := s.append .peerNotice (.sec f) .noticeRestored 0
  if t.fstate f = .waitPeer then
    if t.interlock f true = .pass then (t.modCtx f fun c => { c with auto := true }).enterClosing f
    else t.interlockFails f
  else t

/-- A LOCKOUT notice (08 R151). -/
def State.lockoutNotice (s : State) (f : Feeder) : State :=
  (s.append .peerNotice (.sec f) .noticeLockout 0).lockoutDemand f .peerLockout

/-! ## Receiving -/

/-- A valid frame taken outside the reset silence. -/
def State.takeFrame (s : State) (l : Link) : PeerFrame → State
  | .status v => s.takeStatus l v
  | .tripReq i id => s.takeTripReq l i id
  | .tripAck i id => s.takeTripAck l i id
  | .restored i => s.takeFor l i State.restoredFeeder
  | .lockout i => s.takeFor l i State.lockoutNotice
  | .blockAdd i t => s.takeFor l i fun s f => s.addPeer f t
  | .blockDel i t => s.takeFor l i fun s f => s.delPeer f t
  | .blockSet i ts => s.takeFor l i fun s f => s.replacePeers f ts

/-- The reception of a frame: a frame with a count out of range is bad (08 R135; log 27); during the reset silence
every valid frame is ignored (08 R140, R155); any other restarts the loss timer and is taken (08 R135, R139). The line
test unit takes its heads at the end (log 11). -/
def State.receive (s : State) (l : Link) (x : PeerFrame) : State :=
  if !x.wellFormed then s.countBad l
  else if (s.links.get l).silence.isSome then s.countIgnored l
  else ((s.restartLoss l).takeFrame l x).settle

/-! ## Loss of the neighbour (08 R143) -/

/-- Step 1 for one index: an outstanding intertrip is cancelled with a lockout demand. -/
def State.loseIntertrip (s : State) (l : Link) (i : Index) : State :=
  match (s.links.get l).idx[i].out with
  | none => s
  | some o =>
    ((s.modIndex l i fun x => { x with out := none }).lockoutDemand o.feeder .intertripUnack).append .intertripUnack
      (.sec o.feeder) .unackLinkLost o.id.toNat

/-- Step 2 for one section. -/
def State.loseSection (s : State) (f : Feeder) : State := s.setCoordination f .uncoordinated s.allCoordinated

/-- Steps 3 and 4: the memory of the indices and the queue; "Every frame in the transmit queue other than a TRIP_ACK
is removed". -/
def LinkUnit.forget (k : LinkUnit) : LinkUnit :=
  { k with
    idx := Vector.ofFn fun i => { k.idx[i] with lastRx := none, summary := none }
    queue := k.queue.filter fun
      | .tripAck _ _ => true
      | .status | .tripReq _ _ | .restored _ | .lockout _ | .blockAdd _ _ | .blockDel _ _ | .blockSet _ => false }

/-- The link enters DOWN, in the order of 08 R143; step 1 takes indices 0 to 3, each demand before that index's entry (log
12); LINK_STATE carries link_loss_time as it stands at the expiry (log 14). -/
def State.loseLink (s : State) (l : Link) : State :=
  let was := (s.links.get l).state
  let t := s.modLink l fun k => { k with state := .down, loss := none, refresh := none }
  let t := indices.foldl (fun s i => s.loseIntertrip l i) t
  let t := (t.sectionsOf l).foldl State.loseSection t
  let t := (t.modLink l LinkUnit.forget).linkEntry l (s.g .linkLossTime)
  t.onsetIf (was = .up && t.mappedTo l) (linkLatch l)

/-! ## Retries (08 R147) -/

/-- Expiry of the retry timer of an outstanding intertrip (the LOCKOUT entry before INTERTRIP_UNACK: log 38). -/
def State.retryIntertrip (s : State) (l : Link) (i : Index) (o : Outstanding) : State :=
  if o.sends < 3 then
    (s.modIndex l i fun x => { x with out := some { o with sends := o.sends + 1, retry := Config.retryTicks } }).ask l
      (.tripReq i o.id)
  else
    ((s.modIndex l i fun x => { x with out := none }).lockoutDemand o.feeder .intertripUnack).append .intertripUnack
      (.sec o.feeder) .unackNoAck o.id.toNat

/-! ## The transmitter (08 R137, R138, R152) -/

/-- The fields of a STATUS for one index (08 R138). -/
def State.summaryOf (s : State) (l : Link) (i : Index) : Summary :=
  match s.feederAt l i with
  | none => ⟨false, .lead, false, false, 0⟩
  | some f =>
    ⟨true, (s.sections[f].mapping.map Mapping.role).getD .lead, s.shows f, s.earthed f, s.sections[f].blocks.length⟩

/-- The index whose mapping the transmitter checks before it sends the frame (08 R137). -/
def Frame.checked : Frame → Option Index
  | .restored i => some i
  | .lockout i => some i
  | .blockAdd i _ => some i
  | .blockDel i _ => some i
  | .blockSet i => some i
  | .status => none
  | .tripReq _ _ => none
  | .tripAck _ _ => none

/-- The frame is sent when it reaches the transmitter: its index still maps, where that is checked (08 R137). -/
def State.sendable (s : State) (l : Link) (x : Frame) : Bool :=
  match x.checked with
  | some i => (s.feederAt l i).isSome
  | none => true

/-- The frame as it goes out; STATUS and BLOCK_SET are formed at this moment (08 R137, R138, R152). -/
def State.formFrame (s : State) (l : Link) : Frame → PeerFrame
  | .status => .status (Vector.ofFn fun i => s.summaryOf l i)
  | .tripReq i id => .tripReq i id
  | .tripAck i id => .tripAck i id
  | .restored i => .restored i
  | .lockout i => .lockout i
  | .blockAdd i t => .blockAdd i t
  | .blockDel i t => .blockDel i t
  | .blockSet i => .blockSet i (((s.feederAt l i).map s.announced).getD [])

/-- The transmitter takes the head of the queue: heads that cannot be sent are removed, "and no counter records it", up
to one that is sent (08 R137; log 23). -/
def State.transmitFrom (s : State) (l : Link) : List Frame → State
  | [] => s.modLink l fun k => { k with queue := [] }
  | x :: rest =>
    if s.sendable l x then
      s.modLink l fun k => { k with queue := rest, sent := encodeFrame (s.formFrame l x) }
    else s.transmitFrom l rest

end Sys2Proof.Machine
end

