-- ==== Sys2Proof/Machine/PeerLink.lean ====
section
/-! DEFINITION. The peer link controllers: the meanings of the frames received, of the transmitter and of the link
timers (08). -/

namespace Sys2Proof.Machine

/-! ## Frames received (08 R135, R140 to R142, R148 to R153) -/

/-- STATUS (08 R140 to R142). -/
def execStatus (l : Link) (summaries : Vector Summary 4) (s : State) : Answer :=
  .next (s.receive l (.status summaries))

/-- TRIP_REQ (08 R149). -/
def execTripReq (l : Link) (i : Index) (id : Byte) (s : State) : Answer := .next (s.receive l (.tripReq i id))

/-- TRIP_ACK (08 R148). -/
def execTripAck (l : Link) (i : Index) (id : Byte) (s : State) : Answer := .next (s.receive l (.tripAck i id))

/-- RESTORED (08 R150). -/
def execRestored (l : Link) (i : Index) (s : State) : Answer := .next (s.receive l (.restored i))

/-- LOCKOUT (08 R151). -/
def execLockout (l : Link) (i : Index) (s : State) : Answer := .next (s.receive l (.lockout i))

/-- BLOCK_ADD (08 R153). -/
def execBlockAdd (l : Link) (i : Index) (tag : Tag) (s : State) : Answer := .next (s.receive l (.blockAdd i tag))

/-- BLOCK_DEL (08 R153). -/
def execBlockDel (l : Link) (i : Index) (tag : Tag) (s : State) : Answer := .next (s.receive l (.blockDel i tag))

/-- BLOCK_SET (08 R153). -/
def execBlockSet (l : Link) (i : Index) (tags : List Tag) (s : State) : Answer :=
  .next (s.receive l (.blockSet i tags))

/-- BAD_FRAME: "A bad frame is discarded and the bad-frame counter is incremented" (08 R135); bytes that are a valid
frame are taken as that frame (log 27). -/
def execBadFrame (l : Link) (rx : Reception) (s : State) : Answer :=
  match judgeFrame rx with
  | none => .next (s.countBad l)
  | some x => .next (s.receive l x)

/-! ## The transmitter (08 R137) -/

/-- FRAME_TRANSMIT: the head of the queue is sent; "During the reset silence, nothing is sent" (08 R137, R155; log
23). -/
def execFrameTransmit (l : Link) (s : State) : Answer :=
  if (s.links.get l).silence.isSome then .next s
  else .next (s.transmitFrom l (s.links.get l).queue)

/-! ## The timers of a link (08 R138, R143, R147, R152, R155; log 2) -/

/-- HEARTBEAT_EXPIRY: "Each expiry asks for a STATUS", and the timer is periodic (08 R138). -/
def execHeartbeatExpiry (l : Link) (s : State) : Answer :=
  if !expired (s.links.get l).heartbeat then .next s
  else .next ((s.modLink l fun k => { k with heartbeat := some Config.heartbeatTicks }).ask l .status)

/-- LOSS_TIMER_EXPIRY: the link enters DOWN (08 R139, R143). -/
def execLossTimerExpiry (l : Link) (s : State) : Answer :=
  if !expired (s.links.get l).loss then .next s
  else if (s.links.get l).state = .down then .next (s.modLink l fun k => { k with loss := none })
  else .next (s.loseLink l).settle

/-- REFRESH_EXPIRY: a BLOCK_SET for each COORDINATED section of the link, and the timer is periodic (08 R152). -/
def execRefreshExpiry (l : Link) (s : State) : Answer :=
  if !expired (s.links.get l).refresh then .next s
  else
    .next ((s.coordinatedOf l).foldl (fun s f => s.askFor f .blockSet)
      (s.modLink l fun k => { k with refresh := some Config.refreshTicks }))

/-- RETRY_EXPIRY of the outstanding intertrip of an index (08 R147). -/
def execRetryExpiry (l : Link) (i : Index) (s : State) : Answer :=
  match (s.links.get l).idx[i].out with
  | none => .next s
  | some o => .next (if o.retry = 0 then (s.retryIntertrip l i o).settle else s)

/-- RESET_SILENCE_END: "the heartbeat timer starts and a STATUS is asked for at once" (08 R155). -/
def execResetSilenceEnd (l : Link) (s : State) : Answer :=
  if !expired (s.links.get l).silence then .next s
  else .next ((s.modLink l fun k =>
    { k with silence := none, heartbeat := some Config.heartbeatTicks }).ask l .status)

end Sys2Proof.Machine
end

