-- ==== Sys2Proof/Machine/SectionUnit.lean ====
section
/-! DEFINITION. The section table: the meanings of the block commands, of the earth switch and selector inputs and of
RELEASE_HOLD (07). -/

namespace Sys2Proof.Machine

/-! ## Blocks (07 R120 to R123) -/

/-- The state in which an entry is made, by the feeder's state when the command is taken (07 R121). -/
def FeederState.entryActive : FeederState → Bool
  | .opened | .locked | .deadTime | .queued | .testing | .waitPeer | .closing => true
  | .closed | .tripping | .stuck => false

/-- An accepted PLACE_BLOCK: the action on the feeder, the entry, BLOCK_PLACED, the notice (07 R121, R124). -/
def State.placeEntry (s : State) (p : Port) (f : Feeder) (tag : Tag) : Reply :=
  let active := (s.fstate f).entryActive
  let t := s.barFeeder f .blockOpen
  let u := (t.modSection f fun x => { x with blocks := x.blocks ++ [⟨p, tag, active⟩] }).append .blockPlaced (.sec f)
    (.blockPlaced p active) tag.toNat
  ⟨u.announce t f, .accepted, flag (!active)⟩

/-- The section's local list has the entry of an origin and a tag (07 R120, R123). -/
def Section.hasEntry (x : Section) (p : Port) (tag : Tag) : Bool :=
  x.blocks.any fun b => b.origin = p && b.tag = tag

/-- The checks of PLACE_BLOCK on a section (07 R120). -/
def State.placeBlock (s : State) (p : Port) (tag : Tag) (openFirst : Byte) (f : Feeder) : Reply :=
  if tag = 0 ∨ 1 < openFirst.toNat then s.refuse .badArgument
  else if s.sections[f].hasEntry p tag then s.refuse .duplicate
  else if Config.blockDepth ≤ s.sections[f].blocks.length then s.refuse .full
  else if (s.fstate f = .closed ∨ s.fstate f = .closing) ∧ openFirst = 0 then s.refuse .live
  else s.placeEntry p f tag

/-- PLACE_BLOCK, from either port (07 R120, R121). -/
def execPlaceBlock (p : Port) (sec : Byte) (tag : Tag) (openFirst : Byte) (s : State) : Answer :=
  .next (s.serve p (.placeBlock p sec tag openFirst) fun s => s.forFeeder sec (s.placeBlock p tag openFirst)).settle

/-- REMOVE_BLOCK on a section (07 R123). -/
def State.removeBlock (s : State) (p : Port) (tag : Tag) (f : Feeder) : Reply :=
  if tag = 0 then s.refuse .badArgument
  else if s.sections[f].hasEntry p tag then
    let t := (s.modSection f fun x =>
      { x with blocks := x.blocks.filter fun b => !(b.origin = p && b.tag = tag) }).append .blockRemoved (.sec f)
      (.blockRemoved p) tag.toNat
    (t.announce s f).accept
  else s.refuse .notFound

/-- REMOVE_BLOCK, from either port (07 R123). -/
def execRemoveBlock (p : Port) (sec : Byte) (tag : Tag) (s : State) : Answer :=
  .next (s.serve p (.removeBlock p sec tag) fun s => s.forFeeder sec (s.removeBlock p tag))

/-! ## Earthing (07 R125, R126) -/

/-- The earth switch input of a section. -/
def State.showEarth (s : State) (f : Feeder) (closed : Bool) : State :=
  { s with inputs := { s.inputs with earth := s.inputs.earth.set f closed } }

/-- EARTH_SWITCH_CLOSED (07 R125; log 5). -/
def execEarthSwitchClosed (f : Feeder) (s : State) : Answer :=
  if s.earthed f then .next s
  else .next ((((s.showEarth f true).barFeeder f .earth).append .earthed (.sec f) .none 0).announce s f).settle

/-- EARTH_SWITCH_OPENED (07 R126; log 5). -/
def execEarthSwitchOpened (f : Feeder) (s : State) : Answer :=
  if s.earthed f then .next (((s.showEarth f false).append .unearthed (.sec f) .none 0).announce s f)
  else .next s

/-! ## Authority and start hold (07 R131, R132) -/

/-- SELECTOR_CHANGE (07 R131; log 5). -/
def execSelectorChange (pos : Selector) (s : State) : Answer :=
  if s.inputs.selector = pos then .next s
  else
    let t : State := { s with inputs := { s.inputs with selector := pos } }
    .next (t.append .authority (.port t.authority) (.selector pos) 0)

/-- RELEASE_HOLD on the authority port (07 R132; 03 R35; HOLD_RELEASED before the entry of a restart: log 38). -/
def State.releaseHold (s : State) (p : Port) : Reply :=
  if s.startHold then
    (({ s with startHold := false } : State).append .holdReleased (.port p) .none 0).tryRestart.accept
  else s.answer []

/-- RELEASE_HOLD (07 R132). -/
def execReleaseHold (p : Port) (s : State) : Answer :=
  .next (s.serve p (.releaseHold p) fun s => s.authorised p (s.releaseHold p))

end Sys2Proof.Machine
end

