-- ==== Sys2Proof/Machine/PortUnit.lean ====
section
/-! DEFINITION. The port units and the settings store: the meanings of the select line, of UNKNOWN_COMMAND, of
READ_CONDITIONS, of READ_SETTING and of WRITE_SETTING (10). -/

namespace Sys2Proof.Machine

/-! ## The select line (10 R173, R174) -/

/-- SELECT_LOW, with the bytes received before the next event on the port (10 R173; log 5, log 7). -/
def execSelectLow (p : Port) (bytes : List Byte) (s : State) : Answer :=
  if Inputs.select s.inputs p then .next s
  else .next ((s.lowerSelect p).receiveBytes p bytes)

/-- SELECT_RAISED (10 R173, R174; log 5). -/
def execSelectRaised (p : Port) (s : State) : Answer :=
  if Inputs.select s.inputs p then .next (s.raiseSelect p) else .next s

/-- UNKNOWN_COMMAND: "It is answered UNKNOWN_COMMAND and changes nothing" (10 R174). -/
def execUnknownCommand (p : Port) (code : Byte) (s : State) : Answer :=
  .next (s.serve p (.unknownCommand p code) fun s => s.refuse .unknownCommand)

/-! ## Condition latches (10 R179) -/

/-- READ_CONDITIONS on the calling port's word: the word as it stands, then "every set latch whose condition is not
present at that moment is cleared" (10 R179). -/
def State.readConditions (s : State) (p : Port) : Reply :=
  let word := (s.ports.get p).latches
  (s.modPort p fun u => { u with latches := u.latches &&& s.presentWord }).answer (tagBytes word)

/-- READ_CONDITIONS (10 R179). -/
def execReadConditions (p : Port) (s : State) : Answer :=
  .next (s.serve p (.readConditions p) fun s => s.readConditions p)

/-! ## Settings (10 R181, R183) -/

/-- READ_SETTING on an identifier (10 R183; 11 R187). -/
def State.readSetting (s : State) (id : Nat) : Reply :=
  match settingNamed id with
  | none => s.refuse .badArgument
  | some n =>
    let row := settingRow n
    s.answer (bytes32 (s.settings.value n) ++ bytes32 row.lo ++ bytes32 row.hi ++ bytes32 row.dflt)

/-- READ_SETTING (10 R183). -/
def execReadSetting (p : Port) (id : Byte) (s : State) : Answer :=
  .next (s.serve p (.readSetting p id) fun s => s.readSetting id.toNat)

/-- The setting ties a feeder to the coordination map: its link, index or role (08 R144). -/
def SettingName.ofMap : SettingName → Bool
  | .feeder _ i => i = FeederSetting.link.idx || i = FeederSetting.index.idx || i = FeederSetting.role.idx
  | .glob _ => false

/-- The setting is α_min, α_max or α_inv (03 R33, R42). -/
def SettingName.ofAlpha : SettingName → Bool
  | .glob i => i = GlobalSetting.alphaMin.idx || i = GlobalSetting.alphaMax.idx || i = GlobalSetting.alphaInv.idx
  | .feeder _ _ => false

/-- The firing angle after a write to α_min, α_max or α_inv: clamped in STARTING and RUNNING on the first two, α_inv′ in
SHIFTING on all three (03 R33, R42); that α_inv acts at once follows R33, the rule of α's owner (00, Timing of events), where
the list of 10 R181 leaves it out: log 39. -/
def State.reformAlpha (s : State) (n : SettingName) : State :=
  let limited : State :=
    if n = .glob GlobalSetting.alphaInv.idx then s
    else s.modRect fun r => { r with alpha := clamp r.alpha (s.g .alphaMin) s.settings.alphaMax' }
  match s.rect.state with
  | .starting => limited
  | .running => limited
  | .shifting => s.modRect fun r => { r with alpha := s.settings.alphaInv' }
  | .stopped => s
  | .blocked => s
  | .gateTest => s

/-- The effects of a changed setting on the units, "in the order of their own rules" (10 R181). -/
def State.settingEffects (s : State) (n : SettingName) : State :=
  if n.ofAlpha then s.reformAlpha n
  else if n = .glob GlobalSetting.autoRestart.idx then s.tryRestart
  else if n.ofMap then s.remap
  else s

/-- The setting takes a new value: its entry first, then the effects (10 R181 step 6). -/
def State.storeSetting (s : State) (p : Port) (id : Nat) (n : SettingName) (v : Int) : State :=
  (({ s with settings := s.settings.write n v } : State).append .settingChanged (.port p) (.setting id) v).settingEffects n

/-- The result of an accepted write: CLAMPED where step 3 limited the value, with its onset (10 R181). -/
def State.writeDone (s : State) (n : SettingName) (limited : Bool) (r : Result) : Reply :=
  ⟨s.onsetIf limited .settingsClamped, if limited then .clamped else r, bytes32 (s.settings.value n)⟩

/-- Steps 4 to 6 of a write, with the value of step 3 (10 R181); a write of the value already held forms no map (08 R144) and
checks no restart conditions (03 R35): log 20. -/
def State.writeValue (s : State) (p : Port) (id : Nat) (n : SettingName) (v : Int) (limited : Bool) : Reply :=
  if n.ofMap && s.remapRefused (s.settings.write n v) then s.refuse .state
  else if s.settings.value n = v then s.writeDone n limited .ok
  else (s.storeSetting p id n v).writeDone n limited .accepted

/-- The judgement of a write from port S (10 R181). -/
def State.writeSetting (s : State) (p : Port) (id : Nat) (v : Int) : Reply :=
  match settingNamed id with
  | none => s.refuse .badArgument
  | some n =>
    let row := settingRow n
    if row.enumerated then
      if v < row.lo ∨ row.hi < v then s.refuse .badArgument else s.writeValue p id n v false
    else s.writeValue p id n (clamp v row.lo row.hi) (decide (clamp v row.lo row.hi ≠ v))

/-- WRITE_SETTING: "From port C it is refused with NOT_PERMITTED" (10 R181). -/
def execWriteSetting (p : Port) (id : Byte) (value : BitVec 32) (s : State) : Answer :=
  .next (s.serve p (.writeSetting p id value) fun s =>
    if p = .s then s.writeSetting p id.toNat value.toInt else s.refuse .notPermitted)

end Sys2Proof.Machine
end

