-- ==== Sys2Proof/Machine/Reads.lean ====
section
/-! DEFINITION. The read commands of the units: the items that the owning rules name, in their order, in the bytes of
11 R187 (log 9). -/

namespace Sys2Proof.Machine

/-! ## Numbers of named values, from 0 in the order of their tables (11 R187) -/

/-- The number of a tracker state (02, 2.2). -/
def TrackerState.number : TrackerState → Nat
  | .unsync => 0 | .acquire => 1 | .locked => 2 | .holdover => 3

/-- The number of a measurement state (01, 1.4; log 9). -/
def MeasState.number : MeasState → Nat
  | .live => 0 | .blind => 1

/-- The number of a feeder state (05, 5.1). -/
def FeederState.number : FeederState → Nat
  | .opened => 0 | .locked => 1 | .deadTime => 2 | .queued => 3 | .testing => 4 | .waitPeer => 5 | .closing => 6
  | .closed => 7 | .tripping => 8 | .stuck => 9

/-- The number of a gate test result (03, 3.9). -/
def GateTestResult.number : GateTestResult → Nat
  | .none => 0 | .running => 1 | .clean => 2 | .failed => 3 | .aborted => 4

/-- The number of a role (10 R180). -/
def roleNumber : Role → Nat
  | .lead => 0 | .follow => 1

/-- The number of a selector position (07 R131). -/
def selectorNumber : Selector → Nat
  | .localPos => 0 | .remotePos => 1

/-- A lockout cause, numbered from 0 in the list of 05, 5.1. -/
def lockBytes (c : LockCause) : List Byte := byte (c.code - 1)

/-- A trip cause, numbered from 0 in the list of 05, 5.1. -/
def tripBytes (c : TripCause) : List Byte := byte (c.code - 1)

/-- A disposition: its place in the list of 05, 5.1, and the cause of LOCKED (log 9). -/
def Disposition.bytes : Disposition → List Byte
  | .opened => byte 0 ++ optional 1 none
  | .locked c => byte 1 ++ optional 1 (some (lockBytes c))
  | .reclose => byte 2 ++ optional 1 none
  | .follow => byte 3 ++ optional 1 none
  | .thermalWait => byte 4 ++ optional 1 none

/-- A shift end: STOPPED 0 or BLOCKED 1, and the cause (03, 3.2; log 9). -/
def ShiftEnd.bytes : ShiftEnd → List Byte
  | .stopped => byte 0 ++ optional 1 none
  | .blocked c => byte 1 ++ optional 1 (some (byte c.number))

/-- The result of a last line test: NONE, PASS, LIVE, FAIL or ABORTED, and the reason of FAIL (06 R113; log 9). -/
def LineResult.bytes : LineResult → List Byte
  | .none => byte 0 ++ optional 1 Option.none
  | .pass => byte 1 ++ optional 1 Option.none
  | .live => byte 2 ++ optional 1 Option.none
  | .peerClosed => byte 3 ++ optional 1 (some (byte 0))
  | .noSupply => byte 3 ++ optional 1 (some (byte 1))
  | .lowResistance => byte 3 ++ optional 1 (some (byte 2))
  | .invalid => byte 3 ++ optional 1 (some (byte 3))
  | .aborted => byte 4 ++ optional 1 Option.none

/-- The number of a frame kind (08, 8.2). -/
def Frame.number : Frame → Nat
  | .status => 0 | .tripReq _ _ => 1 | .tripAck _ _ => 2 | .restored _ => 3 | .lockout _ => 4 | .blockAdd _ _ => 5
  | .blockDel _ _ => 6 | .blockSet _ => 7

/-- A timer in ms: whether it runs, and the time left. -/
def timerMs (t : Option Nat) : List Byte := optional 2 (t.map fun n => bytes16 (msLeft n))

/-- A timer in s. -/
def timerSec (t : Option Nat) : List Byte := optional 2 (t.map fun n => bytes16 (secLeft n))

/-! ## READ_STATUS (10 R177, 06 R115) -/

/-- A feeder's state with the lockout cause of a LOCKED feeder. -/
def State.feederSummary (s : State) (f : Feeder) : List Byte :=
  byte (s.fstate f).number ++ optional 1 (if s.fstate f = .locked then s.ctx[f].lock.map lockBytes else none)

/-- The line test unit: state, tested feeder, time left, queue (06 R115). -/
def LineTest.bytes (u : LineTest) : List Byte :=
  flag u.tested.isSome ++ optional 1 (u.tested.map fun f => byte (feederNo f)) ++ timerMs u.timer
    ++ listed (u.queue.map fun f => byte (feederNo f))

/-- The data of READ_STATUS on a port, in the order of 10 R177 (the AC breaker position, 1 where it shows closed: log 9). -/
def State.statusBytes (s : State) (p : Port) : List Byte :=
  byte s.rect.state.number ++ optional 1 (s.rect.cause.map fun c => byte c.number) ++ byte s.tracker.state.number
    ++ byte s.sample.state.number ++ feeders.flatMap s.feederSummary
    ++ (feeders.flatMap fun f => byte s.sections[f].coord.number)
    ++ (feeders.flatMap fun f => flag (s.earthed f) ++ flag (s.sections[f].holdsLocal || s.sections[f].holdsPeer))
    ++ byte s.links.u.state.number ++ byte s.links.d.state.number ++ byte (portNumber s.authority)
    ++ flag s.startHold ++ byte (selectorNumber s.inputs.selector) ++ flag s.inputs.eoff ++ flag s.inputs.acClosed
    ++ flag s.acTrip ++ s.lineTest.bytes ++ bytes16 s.journal.entries.length ++ bytes16 (s.unread p).length

/-- READ_STATUS (10 R177). -/
def execReadStatus (p : Port) (s : State) : Answer :=
  .next (s.serve p (.readStatus p) fun s => s.answer (s.statusBytes p))

/-! ## READ_MEASUREMENTS (01 R12) -/

/-- A channel: its latest valid value or its absence, and its invalid run count. -/
def Channel.bytes (c : Channel) : List Byte := optional 2 (c.latest.map bytes16) ++ bytes16 c.invalidRun

/-- The data of READ_MEASUREMENTS, in the order of 01 R12. -/
def State.measurementBytes (s : State) : List Byte :=
  s.sample.channels.toList.flatMap Channel.bytes ++ byte s.sample.state.number ++ byte s.sample.resume
    ++ s.sample.failed.toList.flatMap flag ++ bytes16 s.sample.gapCount ++ bytes16 s.sample.setErrors
    ++ feeders.flatMap fun f => bytes32 (s.theta f)

/-- READ_MEASUREMENTS (01 R12). -/
def execReadMeasurements (p : Port) (s : State) : Answer :=
  .next (s.serve p (.readMeasurements p) fun s => s.answer s.measurementBytes)

/-! ## READ_FEEDER (05 R102, 04 R76, 06 R115) -/

/-- The context and the inputs it depends on (05 R102; the breaker position, 1 where it shows closed: log 9). -/
def State.contextBytes (s : State) (f : Feeder) : List Byte :=
  let c := s.ctx[f]
  byte c.state.number ++ optional 1 (c.lock.map lockBytes) ++ optional 1 (c.lastTrip.map tripBytes)
    ++ optional 3 (c.disp.map Disposition.bytes) ++ byte c.count ++ flag c.auto
    ++ optional 1 (c.wait.map fun w => byte (if w = .timed then 0 else 1))
    ++ timerMs c.tripTimer ++ timerMs c.closeTimer ++ timerMs c.deadTimer ++ timerSec c.reclaimTimer
    ++ timerSec c.followTimer ++ flag (s.shows f) ++ flag (s.closeCoil f) ++ flag (s.tripCoil f)

/-- The discriminator's items (04 R76). -/
def Disc.bytes (d : Disc) : List Byte :=
  optional 2 (d.prev.map bytes16) ++ byte d.instRun ++ flag d.instAlarm
    ++ optional 8 (d.episode.map fun e => bytes16 e.base ++ bytes16 e.length ++ bytes32 e.rise)
    ++ bytes16 d.blank ++ bytes32 (d.fine / 65536) ++ flag d.warn ++ flag d.thermalAlarm
    ++ bytes16 d.ended ++ bytes16 d.largest ++ bytes16 d.cancelled ++ bytes16 d.instOps ++ bytes16 d.rorOps
    ++ bytes16 d.thermalOps

/-- A last result record (06 R113): the kind of close is PORT 0 or AUTOMATIC 1. -/
def LastResult.bytes (x : LastResult) : List Byte :=
  x.result.bytes ++ flag x.auto ++ optional 2 (x.vBus.map bytes16) ++ optional 2 (x.vLine.map bytes16) ++ bytes32 x.value

/-- The place of a feeder in the queue, "1 for the head, or its absence" (06 R115). -/
def LineTest.place (u : LineTest) (f : Feeder) : Option Nat := (u.queue.findIdx? fun g => g = f).map fun n => n + 1

/-- The data of READ_FEEDER, in the order of 05 R102, 04 R76 and 06 R115 (log 9). -/
def State.feederBytes (s : State) (f : Feeder) : List Byte :=
  s.contextBytes f ++ s.disc[f].bytes ++ s.lineTest.last[f].bytes ++ optional 1 ((s.lineTest.place f).map byte)
    ++ flag (s.contactor f)

/-- READ_FEEDER (05 R102). -/
def execReadFeeder (p : Port) (feeder : Byte) (s : State) : Answer :=
  .next (s.serve p (.readFeeder p feeder) fun s => s.forFeeder feeder fun f => s.answer (s.feederBytes f))

/-! ## READ_SECTION (07 R133) -/

/-- The link, index and role of a section; "index and role are absent when the link is NONE" (07, 7.1). -/
def mappingBytes (m : Option Mapping) : List Byte :=
  byte (match m with
    | some m => linkNumber m.link + 1
    | none => 0)
    ++ optional 1 (m.map fun m => byte m.index.val) ++ optional 1 (m.map fun m => byte (roleNumber m.role))

/-- A local entry: origin, tag, and state ACTIVE 0 or WAITING 1. -/
def LocalBlock.bytes (b : LocalBlock) : List Byte := byte (portNumber b.origin) ++ bytesTag b.tag ++ flag (!b.active)

/-- The data of READ_SECTION, in the order of 07 R133. -/
def State.sectionBytes (s : State) (f : Feeder) : List Byte :=
  let x := s.sections[f]
  mappingBytes x.mapping ++ byte x.coord.number ++ flag (s.earthed f) ++ listed (x.blocks.map LocalBlock.bytes)
    ++ listed (x.peers.map bytesTag) ++ flag x.overflow ++ listed ((s.announced f).map bytesTag)
    ++ optional 2 (x.summary.map fun y => flag y.closed ++ flag y.earthed)
    ++ byte (s.interlock f false).number ++ byte (s.interlock f true).number ++ byte (portNumber s.authority)
    ++ flag s.startHold

/-- READ_SECTION (07 R133). -/
def execReadSection (p : Port) (sec : Byte) (s : State) : Answer :=
  .next (s.serve p (.readSection p sec) fun s => s.forFeeder sec fun f => s.answer (s.sectionBytes f))

/-! ## READ_RECTIFIER (03 R53) -/

/-- The gate test record (03, 3.9). -/
def GateTest.bytes (t : GateTest) : List Byte :=
  byte t.result.number ++ byte t.repeats ++ byte t.skip ++ byte t.steps ++ t.errors.toList.flatMap byte

/-- The reconciled limits of α in use, "such as the α limits in READ_RECTIFIER": α_max′ and α_inv′ (03 R42, 10 R183). -/
def Settings.alphaLimitBytes (st : Settings) : List Byte := bytes16 st.alphaMax' ++ bytes16 st.alphaInv'

/-- The data of READ_RECTIFIER: the items of 03 R53 in its order, then the limits of α that 10 R183 adds (that place, and
the AC breaker position, 1 where it shows closed: log 9). -/
def State.rectBytes (s : State) : List Byte :=
  let r := s.rect
  byte r.state.number ++ optional 1 (r.cause.map fun c => byte c.number) ++ flag s.lockedOut ++ bytes16 r.alpha
    ++ byte r.shiftCount ++ optional 3 (r.shiftEnd.map ShiftEnd.bytes) ++ timerMs r.restart
    ++ optional 2 (r.vMeas.map bytes16) ++ optional 4 (r.iMeas.map bytes32) ++ bytes16 r.noData
    ++ r.gates.toList.flatMap (fun x => byte x.miss) ++ r.test.bytes ++ flag (!r.absDemand) ++ flag s.absorberOut
    ++ flag r.hot ++ bytes32 s.absorberTheta ++ byte r.diffRun ++ flag r.alarmStanding
    ++ byte ((if r.demandBus then 1 else 0) + (if r.demandBreaker then 2 else 0)) ++ flag s.acTrip
    ++ flag s.inputs.acClosed ++ flag s.inputs.eoff ++ s.settings.alphaLimitBytes

/-- READ_RECTIFIER (03 R53; 10 R183). -/
def execReadRectifier (p : Port) (s : State) : Answer :=
  .next (s.serve p (.readRectifier p) fun s => s.answer s.rectBytes)

/-! ## READ_TRACKER (02 R28) -/

/-- The data of READ_TRACKER, in the order of 02 R28. -/
def State.trackerBytes (s : State) : List Byte :=
  let k := s.tracker
  byte k.state.number ++ optional 4 (k.period.map bytes32) ++ optional 4 (k.prev.map bytesStamp) ++ byte k.good
    ++ byte k.holdover ++ bytes16 k.glitches ++ bytes16 k.ranges ++ bytes16 k.slips ++ bytesStamp s.time.stamp

/-- READ_TRACKER (02 R28). -/
def execReadTracker (p : Port) (s : State) : Answer :=
  .next (s.serve p (.readTracker p) fun s => s.answer s.trackerBytes)

/-! ## READ_LINK (08 R154) -/

/-- A peer summary (08, 8.1). -/
def summaryBytes (x : Summary) : List Byte :=
  flag x.configured ++ byte (roleNumber x.role) ++ flag x.closed ++ flag x.earthed ++ byte x.count

/-- An outstanding intertrip: trip id, sends made, retry time left. -/
def Outstanding.bytes (o : Outstanding) : List Byte := [o.id] ++ byte o.sends ++ byte (msLeft o.retry)

/-- One index of a link, in the order of 08 R154 (log 9). -/
def State.indexBytes (s : State) (l : Link) (i : Index) : List Byte :=
  let x := (s.links.get l).idx[i]
  optional 3 ((s.feederAt l i).map fun f =>
      byte (feederNo f) ++ byte (roleNumber ((s.sections[f].mapping.map Mapping.role).getD .lead))
        ++ byte s.sections[f].coord.number)
    ++ [x.tripId] ++ optional 1 (x.lastRx.map fun b => [b]) ++ optional 3 (x.out.map Outstanding.bytes)
    ++ optional 5 (x.summary.map summaryBytes)

/-- The data of READ_LINK, in the order of 08 R154. -/
def State.linkBytes (s : State) (l : Link) : List Byte :=
  let k := s.links.get l
  byte k.state.number ++ timerMs k.silence ++ timerMs k.loss ++ flag k.refresh.isSome
    ++ listed (k.queue.map fun x => byte x.number) ++ bytes16 k.badFrames ++ bytes16 k.ignored ++ bytes16 k.dropped
    ++ ([0, 1, 2, 3] : List Index).flatMap (s.indexBytes l)

/-- READ_LINK on its link byte (08 R154, 11 R187). -/
def State.readLink (s : State) (link : Byte) : Reply :=
  match linkOf link with
  | some l => s.answer (s.linkBytes l)
  | none => s.refuse .badArgument

/-- READ_LINK (08 R154). -/
def execReadLink (p : Port) (link : Byte) (s : State) : Answer :=
  .next (s.serve p (.readLink p link) fun s => s.readLink link)

end Sys2Proof.Machine
end

