-- ==== Sys2Proof/Machine/Resets.lean ====
section
/-! DEFINITION. The two resets: the meanings of POWER_ON_RESET and WARM_RESET (the Resets of every chapter; 09 R172). -/

namespace Sys2Proof.Machine

/-- A section after a reset, with what a warm reset keeps: local entries are ACTIVE if the breaker shows open as the
reset ends, WAITING if it shows closed (07 R134). -/
def Section.afterReset (x : Section) (mapping : Option Mapping) (shows : Bool) : Section :=
  Section.reset mapping (x.blocks.map fun b => { b with active := !shows }) x.peers x.overflow

/-- The fresh latch word: RESET_SEEN, the conditions present, and a map loss (10 R184, R186). -/
def State.freshWord (s : State) : BitVec 16 :=
  s.presentWord ||| Latch.resetSeen.bit ||| (if s.settings.mapLoss then Latch.settingsClamped.bit else 0)

/-- Every unit in its reset state; no trip request is on its way (log 10); the settings, P, the fine thermal values, the
hot flag, the blocks and the timestamp counter are those of the state given (01 R13, 02 R29, 03 R54, 04 R77, 05 R103, 06 R116, 07 R134, 08 R155, 09 R172, 10
R184 to R186). -/
def State.resetUnits (k : State) (inp : Inputs) (kind : Detail) : State :=
  let t : State :=
    { inputs := inp
      time := ⟨k.time.stamp, 0, 0⟩
      sample := SampleUnit.reset (k.g .blindTime)
      tracker := Tracker.reset k.tracker.period
      rect := Rectifier.reset k.settings.alphaMax' k.rect.fa k.rect.hot
      disc := Vector.ofFn fun f => Disc.reset k.disc[f].fine
      trips := ⟨[], k.trips.late⟩
      ctx := Vector.ofFn fun f => Context.reset inp.breaker[f]
      lineTest := LineTest.reset
      sections := Vector.ofFn fun f => k.sections[f].afterReset (k.settings.mapping f) inp.breaker[f]
      startHold := true
      links := ⟨LinkUnit.reset, LinkUnit.reset⟩
      journal := Journal.reset kind
      readers := ⟨Reader.reset, Reader.reset⟩
      slots := Vector.replicate 8 Slot.freed
      ports := ⟨PortUnit.reset 0, PortUnit.reset 0⟩
      settings := k.settings
      pending := k.pending }
  { t with ports := ⟨PortUnit.reset t.freshWord, PortUnit.reset t.freshWord⟩ }

/-- "A feeder found closed is then judged by R97's first case against the section table and EOFF" (05 R103). -/
def State.judgeFound (s : State) (f : Feeder) : State :=
  if s.shows f && (s.barred f || s.inputs.eoff) then s.trip f .interlock .opened 0 0 else s

/-- The end of a reset. -/
def State.resetFrom (k : State) (inp : Inputs) (kind : Detail) : State :=
  feeders.foldl State.judgeFound (k.resetUnits inp kind)

/-- POWER_ON_RESET, with the levels of the input lines as the reset ends; nothing is kept (09 R172; log 4). -/
def execPowerOnReset (inp : Inputs) (s : State) : Answer :=
  .next (({ State.reset with trips := ⟨[], s.trips.late⟩, pending := s.pending } : State).resetFrom inp .powerOn)

/-- WARM_RESET: the settings, P, the fine thermal values, the hot flag, the blocks and the timestamp counter are kept
(09 R172 and the Resets of the chapters; log 4). -/
def execWarmReset (inp : Inputs) (s : State) : Answer := .next (s.resetFrom inp .warm)

end Sys2Proof.Machine
end

