-- ==== Sys2Proof/Machine/Sample.lean ====
section
/-! DEFINITION. The sample unit: the meanings of SAMPLE_SET_ARRIVAL, SAMPLE_WATCHDOG_EXPIRY and BLIND_TIMER_EXPIRY
(01; 03 R46 and R47 for a declared bus fault). -/

namespace Sys2Proof.Machine

/-! ## A taken set (01 R2 to R7) -/

/-- The set is out of sequence: "If the expectation is present and the number differs from it" (01 R5). -/
def SampleUnit.outOfSequence (u : SampleUnit) (seq : Byte) : Bool := u.expect.any fun e => e != seq

/-- The watchdog restarts (01 R6), the channels take their conditioned values (01 R2, R3), and the expectation moves (01
R5). -/
def SampleUnit.takeSet (u : SampleUnit) (x : SampleSet) : SampleUnit :=
  { u with
    watchdog := some Config.watchdogTicks
    channels := Vector.ofFn fun k => u.channels[k].take x.conditioned[k]
    expect := some (x.seq + 1)
    gapCount := if u.outOfSequence x.seq then satInc Config.counterTop u.gapCount else u.gapCount }

/-- A feeder current channel becomes FAILED: the blind action, the entry and the onset (01 R4; the TRIP entry first: log
38). -/
def State.channelFails (s : State) (f : Feeder) : State :=
  let alone := !s.anyFailed && s.sample.state = .live
  let t := s.modSample fun u => { u with failed := u.failed.set f true }
  let t := if actionOf (s.g .blindAction) = .trip then t.tripRequest f .blind (.locked .blind) 16 0 else t
  (t.append .measState (.feeder f) .channelFailed 0).onsetIf alone .measBlind

/-- A FAILED channel is restored by a valid sample (01 R4). -/
def State.channelRestored (s : State) (f : Feeder) : State :=
  (s.modSample fun u => { u with failed := u.failed.set f false }).append .measState (.feeder f) .channelRestored 0

/-- The channel failure check of one feeder: the invalid run count reaches 16, or a valid sample ends a failure (01
R4). -/
def State.checkChannel (s : State) (f : Feeder) : State :=
  let run := s.sample.channels[chI f].invalidRun
  if s.sample.failed[f] then if run = 0 then s.channelRestored f else s
  else if Config.failedRun ≤ run then s.channelFails f
  else s

/-- The channel failure checks, feeders 1 to 6 in turn (01 R4; that order: log 12). -/
def State.checkChannels (s : State) : State := feeders.foldl State.checkChannel s

/-- The resume count after a set taken in BLIND (01 R7). -/
def SampleUnit.resumeNext (u : SampleUnit) (gap : Bool) : Nat :=
  if u.resume = 0 ∨ gap then 1 else u.resume + 1

/-- The measurement state becomes LIVE (01 R7; the resume count: log 21; the entry of a restart first: log 38). -/
def State.enterLive (s : State) : State :=
  (s.modSample fun u => { u with state := .live, blindTimer := none }).tryRestart.append .measState .none .measLive 0

/-- A set taken in BLIND advances the resume count (01 R7). -/
def State.resume (s : State) (gap : Bool) : State :=
  let t := s.modSample fun u => { u with resume := u.resumeNext gap }
  if 4 ≤ t.sample.resume then t.enterLive else t

/-! ## Delivery (01 R9) -/

/-- What the set puts into the rings: "the channel's conditioned value, or the invalid mark" (01 R11). -/
def SampleSet.row (x : SampleSet) (mark : Bool) : RingRow :=
  ⟨x.seq, mark, Vector.ofFn fun f => x.conditioned[chI f], x.conditioned[chBus]⟩

/-- Step 1: the rings take the set, and it is the newest delivered (01 R9, R11; 05 R82). -/
def SampleUnit.deliver (u : SampleUnit) (row : RingRow) : SampleUnit :=
  { u with
    rings := (if u.rings.length < Config.ringDepth then u.rings else u.rings.tail) ++ [row]
    newest := some ⟨row.seq, Vector.ofFn fun f => u.channels[chI f].latest⟩ }

/-- A bus fault declared with the action TRIP: the block request, then feeders 1 to 6 in turn, then the entry (03 R47; the
order of the feeders: log 12). -/
def State.busTrip (s : State) (d : Int) : State :=
  if s.rect.demandBus then s
  else
    (feeders.foldl (fun s f => s.tripRequest f .busFault (.locked .busFault) 0 0)
      (s.blockRequest .busFault none)).append .busFault .none .busTrip d

/-- A bus fault declared with the action ALARM (03 R47). -/
def State.busAlarm (s : State) (d : Int) : State :=
  if s.rect.alarmStanding then s
  else (s.append .busFault .none .busAlarm d).modRect fun r => { r with alarmStanding := true }

/-- A declared bus fault acts by bus_diff_action (03 R47). -/
def State.declareBusFault (s : State) (d : Int) : State :=
  match actionOf (s.g .busDiffAction) with
  | .trip => s.busTrip d
  | .alarm => s.busAlarm d
  | .off => s

/-- The bus differential on a delivered set (03 R46, R47). -/
def State.busStep (s : State) : State :=
  match s.busDifferential with
  | (some d, t) => t.declareBusFault d
  | (none, t) => t

/-- The delivery of a set, in the order of 01 R9. The sequencer can take the trip requests on their way once the recorder
step is done: a capture is made "never between the ring step and the recorder step" (09 R166; before step 4: log 10). One
that does not reach it then finds what other events, or step 4, or further sets have left (04 R55, 09 R166). Within step
4, the regulator sums come first, then the bus differential, then the absorber (log 12). -/
def State.deliver (s : State) (x : SampleSet) (mark : Bool) : State :=
  let row := x.row mark
  let t := s.modSample fun u => u.deliver row
  ((t.discriminate mark).fillSlots row).offerTrips.addSums.busStep.absorber

/-- A taken set (01 R3 to R10). On the set that completes the resume count the failure checks come before the entry to
LIVE, so their entries before MEAS_STATE LIVE: log 12. -/
def State.takeSet (s : State) (x : SampleSet) : State :=
  let gap := s.sample.outOfSequence x.seq
  let t := (s.modSample fun u => u.takeSet x).checkChannels
  if s.sample.state = .live then t.deliver x gap
  else
    let t := t.resume gap
    if t.sample.state = .live then t.deliver x true else t

/-- SAMPLE_SET_ARRIVAL: "If it carries fewer or more bytes, the whole transfer is discarded and the set error counter
is incremented" (01 R1). -/
def execSampleSetArrival (bytes : List Byte) (s : State) : Answer :=
  match parseSet bytes with
  | none => .next (s.modSample fun u => { u with setErrors := satInc Config.counterTop u.setErrors })
  | some x => .next (s.takeSet x).settle

/-! ## The watchdog and the blind timer (01 R6, R8) -/

/-- The measurement state becomes BLIND (01 R6; the ABSORBER entry before MEAS_STATE: log 38). -/
def State.enterBlind (s : State) : State :=
  let t := s.modSample fun u =>
    { u with
      state := .blind
      blindTimer := some (msTicks (s.g .blindTime))
      blindLoaded := s.g .blindTime
      resume := 0
      rings := [] }
  let t := (t.sealAll.modRect fun r => { r with absDemand := false }).absorberEdge s
  (t.append .measState .none .measBlind 0).onsetIf (!s.anyFailed) .measBlind

/-- SAMPLE_WATCHDOG_EXPIRY (01 R6; log 2). -/
def execSampleWatchdogExpiry (s : State) : Answer :=
  if !expired s.sample.watchdog then .next s
  else
    let t := s.modSample fun u => { u with watchdog := none }
    if s.sample.state = .live then .next t.enterBlind
    else .next (t.modSample fun u => { u with resume := 0 })

/-- The blind action at the expiry of the blind timer: feeders 1 to 6 in turn, then the block request (01 R8; the order:
log 12). -/
def State.blindAction (s : State) : State :=
  if actionOf (s.g .blindAction) = .trip then
    (feeders.foldl (fun s f => s.tripRequest f .blind (.locked .blind) 0 0) s).blockRequest .blind none
  else s

/-- BLIND_TIMER_EXPIRY (01 R8; log 2). -/
def execBlindTimerExpiry (s : State) : Answer :=
  if !expired s.sample.blindTimer then .next s
  else
    let t := s.modSample fun u => { u with blindTimer := none }
    if s.sample.state = .blind then
      .next (t.blindAction.append .measState .none .blindExpired s.sample.blindLoaded).settle
    else .next t

end Sys2Proof.Machine
end

