-- ==== Sys2Proof/Machine/Tracking.lean ====
section
/-! DEFINITION. The mains tracker: the meanings of CROSSING and of the three deadline expiries (02). -/

namespace Sys2Proof.Machine

/-! ## Period correction and deadlines (02 R16, R17) -/

/-- The error e = T − P of a measured period (02 R16). -/
def Tracker.error (k : Tracker) (measured : Nat) : Int := measured - k.period.getD 0

/-- The corrected estimate (02 R16). -/
def Tracker.corrected (k : Tracker) (maxAdjust : Int) (measured : Nat) : Int :=
  let e := k.error measured
  clamp (k.period.getD 0 + Int.sign e * min ((e.natAbs / 8 : Nat) : Int) maxAdjust) Config.periodMin Config.periodMax

/-- The corrected estimate with max_adjust read now. -/
def State.correction (s : State) (measured : Nat) : Int := s.tracker.corrected (s.g .maxAdjust) measured

/-- The ACQUIRE deadline t_prev + 222,222 + hold_window (02 R17). -/
def State.acquireDeadline (s : State) (prev : Stamp) : Stamp :=
  prev + BitVec.ofInt 32 (Config.periodMax + s.g .holdWindow)

/-- The LOCKED and HOLDOVER deadline t_prev + P + hold′ (02 R17). -/
def State.lockedDeadline (s : State) (prev : Stamp) (p : Int) : Stamp :=
  prev + BitVec.ofInt 32 (p + s.settings.hold')

/-- The error lies within hold′ (02 R22, R25). -/
def State.withinHold (s : State) (e : Int) : Bool := decide ((e.natAbs : Int) ≤ s.settings.hold')

/-! ## What the tracker reports (02 R26, R27) -/

/-- The one notice of an event, "once its own update for the event is complete": the tracker state and P after the event,
and the reference instant that the event defines (02 R26). -/
def State.handOn (s : State) (instant : Option Instant) : State :=
  s.notice ⟨s.tracker.state, instant, s.tracker.period⟩

/-- A change of the tracker state that is complete: its SYNC_STATE entry, the onset on leaving LOCKED, and the notice (02
R26, R27; SYNC_STATE before the entries that the notice brings: log 38). -/
def State.reportSync (s : State) (was : TrackerState) (c : SyncChange) (v : Int) (instant : Option Instant) : State :=
  ((s.append .syncState .none (.sync c) v).onsetIf (was = .locked) .syncNotLocked).handOn instant

/-! ## Accepted crossings by state (02 R19 to R25) -/

/-- A crossing in UNSYNC (02 R19). -/
def State.crossUnsync (s : State) (t : Stamp) : State :=
  (s.modTracker fun k =>
    { k with state := .acquire, prev := some t, good := 0, holdover := 0, deadline := some (s.acquireDeadline t) }).reportSync
    .unsync .firstCrossing 0 none

/-- The lock is complete (02 R20). -/
def State.completeLock (s : State) (t : Stamp) (p e : Int) : State :=
  (s.modTracker fun k =>
    { k with
      state := .locked, period := some p, good := 4, holdover := 0, deadline := some (s.lockedDeadline t p) }).reportSync
    .acquire .lockComplete e (some ⟨t, false⟩)

/-- An accepted crossing in ACQUIRE, by T and by whether P is present (02 R20). -/
def State.crossAcquire (s : State) (t : Stamp) (measured : Nat) : State :=
  let d := some (s.acquireDeadline t)
  if (measured : Int) < Config.periodMin ∨ Config.periodMax < (measured : Int) then
    s.modTracker fun k => { k with ranges := satInc Config.counterTop k.ranges, good := 0, deadline := d }
  else if s.tracker.period.isNone then
    s.modTracker fun k => { k with period := some (measured : Int), good := 0, deadline := d }
  else
    let e := s.tracker.error measured
    let p := s.correction measured
    if (e.natAbs : Int) ≤ s.g .lockWindow then
      if 4 ≤ s.tracker.good + 1 then s.completeLock t p e
      else s.modTracker fun k => { k with period := some p, good := k.good + 1, deadline := d }
    else s.modTracker fun k => { k with period := some p, good := 0, deadline := d }

/-- An accepted crossing in LOCKED: kept, or a slip (02 R22). -/
def State.crossLocked (s : State) (t : Stamp) (measured : Nat) : State :=
  let e := s.tracker.error measured
  let p := s.correction measured
  if s.withinHold e then
    (s.modTracker fun k => { k with period := some p, deadline := some (s.lockedDeadline t p) }).handOn (some ⟨t, false⟩)
  else
    (s.modTracker fun k =>
      { k with
        state := .acquire, good := 0, slips := satInc Config.counterTop k.slips
        deadline := some (s.acquireDeadline t) }).reportSync .locked .slip e none

/-- An accepted crossing in HOLDOVER: recovered, or back to ACQUIRE (02 R25). -/
def State.crossHoldover (s : State) (t : Stamp) (measured : Nat) : State :=
  let e := s.tracker.error measured
  let p := s.correction measured
  if s.withinHold e then
    (s.modTracker fun k =>
      { k with state := .locked, period := some p, holdover := 0, deadline := some (s.lockedDeadline t p) }).reportSync
      .holdover .recovered e (some ⟨t, false⟩)
  else
    (s.modTracker fun k =>
      { k with state := .acquire, good := 0, holdover := 0, deadline := some (s.acquireDeadline t) }).reportSync
      .holdover .reacquire e none

/-- An accepted crossing: t_prev becomes t, and the rule for the state handles T (02 R15). -/
def State.acceptCrossing (s : State) (t : Stamp) (measured : Nat) : State :=
  let u := s.modTracker fun k => { k with prev := some t }
  match s.tracker.state with
  | .unsync => u.crossUnsync t
  | .acquire => u.crossAcquire t measured
  | .locked => u.crossLocked t measured
  | .holdover => u.crossHoldover t measured

/-- T = (t − t_prev) modulo 2³² (02 R15). -/
def State.measuredPeriod (s : State) (t : Stamp) : Nat := (t - s.tracker.prev.getD 0).toNat

/-- CROSSING: "the edge is given the current value of the timestamp counter as its timestamp t" (02 R14), then the glitch
test outside UNSYNC, then the rule for the state (02 R15; a deadline reached at the same tick: log 3). "The width of the
pulse on the input and its level between edges have no effect." -/
def execCrossing (_width : Nat) (s : State) : Answer :=
  let t := s.time.stamp
  if s.tracker.state ≠ .unsync ∧ s.measuredPeriod t < Config.glitchTicks then
    .next (s.modTracker fun k => { k with glitches := satInc Config.counterTop k.glitches })
  else .next (s.acceptCrossing t (s.measuredPeriod t))

/-! ## Deadline expiries (02 R21, R23, R24) -/

/-- The tracker becomes UNSYNC (02 R21, R23, R24). -/
def State.toUnsync (s : State) (c : SyncChange) : State :=
  (s.modTracker fun k => { k with state := .unsync, good := 0, holdover := 0, deadline := none }).reportSync
    s.tracker.state c (s.tracker.period.getD 0) none

/-- The time of a synthetic instant, t_prev + P (02 R23, R24). -/
def State.syntheticAt (s : State) : Stamp := s.tracker.prev.getD 0 + BitVec.ofInt 32 (s.tracker.period.getD 0)

/-- A synthetic instant is placed (02 R23, R24). -/
def State.placeSynthetic (s : State) (count : Nat) : State :=
  s.modTracker fun k =>
    { k with
      state := .holdover
      prev := some s.syntheticAt
      holdover := count
      deadline := some (s.lockedDeadline s.syntheticAt (k.period.getD 0)) }

/-- "The deadline expires when the timestamp counter reaches it" (02 R17), and the rule of that state follows; nothing
while the tracker is in another state, the deadline is idle, or the counter has not reached it (log 2). A crossing taken
first sets a new deadline, "so the expiry does not occur" (02 R21, R23, R24). -/
def State.onDeadline (s : State) (st : TrackerState) (act : State → State) : State :=
  if s.tracker.deadline.any s.reached ∧ s.tracker.state = st then act s else s

/-- Expiry of the LOCKED deadline (02 R23). -/
def State.lockedExpires (s : State) : State :=
  if 0 < s.g .holdoverMax then
    (s.placeSynthetic 1).reportSync .locked .missed (s.tracker.period.getD 0) (some ⟨s.syntheticAt, true⟩)
  else s.toUnsync .missedNoHoldover

/-- Expiry of the HOLDOVER deadline (02 R24). -/
def State.holdoverExpires (s : State) : State :=
  if ((s.tracker.holdover + 1 : Nat) : Int) ≤ s.g .holdoverMax then
    (s.placeSynthetic (s.tracker.holdover + 1)).handOn (some ⟨s.syntheticAt, true⟩)
  else s.toUnsync .holdoverExhausted

/-- ACQUIRE_DEADLINE_EXPIRY (02 R21). -/
def execAcquireDeadlineExpiry (s : State) : Answer :=
  .next (s.onDeadline .acquire fun s => s.toUnsync .acquireTimeout)

/-- LOCKED_DEADLINE_EXPIRY (02 R23). -/
def execLockedDeadlineExpiry (s : State) : Answer := .next (s.onDeadline .locked State.lockedExpires)

/-- HOLDOVER_DEADLINE_EXPIRY (02 R24). -/
def execHoldoverDeadlineExpiry (s : State) : Answer := .next (s.onDeadline .holdover State.holdoverExpires)

end Sys2Proof.Machine
end

