-- ==== Sys2Proof/Machine/Dispatch.lean ====
section
/-! DEFINITION. One arm per command: the meaning that the command has. -/

namespace Sys2Proof.Machine

/-- The effect of a command on everything but the queue. -/
def exec (i : Instr) (s : State) : Host.Outcome State Fault Refusal :=
  match i with
  | .powerOnReset inp => Sys2Proof.Machine.execPowerOnReset inp s
  | .warmReset inp => Sys2Proof.Machine.execWarmReset inp s
  | .sampleSetArrival bytes => Sys2Proof.Machine.execSampleSetArrival bytes s
  | .sampleWatchdogExpiry => Sys2Proof.Machine.execSampleWatchdogExpiry s
  | .blindTimerExpiry => Sys2Proof.Machine.execBlindTimerExpiry s
  | .crossing width => Sys2Proof.Machine.execCrossing width s
  | .acquireDeadlineExpiry => Sys2Proof.Machine.execAcquireDeadlineExpiry s
  | .lockedDeadlineExpiry => Sys2Proof.Machine.execLockedDeadlineExpiry s
  | .holdoverDeadlineExpiry => Sys2Proof.Machine.execHoldoverDeadlineExpiry s
  | .gatePulseStart g => Sys2Proof.Machine.execGatePulseStart g s
  | .gatePulseEnd g => Sys2Proof.Machine.execGatePulseEnd g s
  | .gateFeedback g => Sys2Proof.Machine.execGateFeedback g s
  | .startRectifier p => Sys2Proof.Machine.execStartRectifier p s
  | .stopRectifier p => Sys2Proof.Machine.execStopRectifier p s
  | .restartWindowExpiry => Sys2Proof.Machine.execRestartWindowExpiry s
  | .resetLockoutRectifier p => Sys2Proof.Machine.execResetLockoutRectifier p s
  | .resetLockoutFeeder p target => Sys2Proof.Machine.execResetLockoutFeeder p target s
  | .acBreakerOpen => Sys2Proof.Machine.execAcBreakerOpen s
  | .acBreakerClosed => Sys2Proof.Machine.execAcBreakerClosed s
  | .eoffAsserted => Sys2Proof.Machine.execEoffAsserted s
  | .eoffReleased => Sys2Proof.Machine.execEoffReleased s
  | .gateTest p repeats skip => Sys2Proof.Machine.execGateTest p repeats skip s
  | .gateTestStepEnd => Sys2Proof.Machine.execGateTestStepEnd s
  | .breakerPositionOpen f => Sys2Proof.Machine.execBreakerPositionOpen f s
  | .breakerPositionClosed f => Sys2Proof.Machine.execBreakerPositionClosed f s
  | .deadTimeExpiry f => Sys2Proof.Machine.execDeadTimeExpiry f s
  | .closeSupervisionExpiry f => Sys2Proof.Machine.execCloseSupervisionExpiry f s
  | .reclaimExpiry f => Sys2Proof.Machine.execReclaimExpiry f s
  | .followWaitExpiry f => Sys2Proof.Machine.execFollowWaitExpiry f s
  | .tripSupervisionExpiry f => Sys2Proof.Machine.execTripSupervisionExpiry f s
  | .closeFeeder p feeder => Sys2Proof.Machine.execCloseFeeder p feeder s
  | .openFeeder p feeder => Sys2Proof.Machine.execOpenFeeder p feeder s
  | .lineTestExpiry => Sys2Proof.Machine.execLineTestExpiry s
  | .placeBlock p sec tag openFirst => Sys2Proof.Machine.execPlaceBlock p sec tag openFirst s
  | .removeBlock p sec tag => Sys2Proof.Machine.execRemoveBlock p sec tag s
  | .earthSwitchClosed f => Sys2Proof.Machine.execEarthSwitchClosed f s
  | .earthSwitchOpened f => Sys2Proof.Machine.execEarthSwitchOpened f s
  | .selectorChange pos => Sys2Proof.Machine.execSelectorChange pos s
  | .releaseHold p => Sys2Proof.Machine.execReleaseHold p s
  | .status l summaries => Sys2Proof.Machine.execStatus l summaries s
  | .tripReq l k id => Sys2Proof.Machine.execTripReq l k id s
  | .tripAck l k id => Sys2Proof.Machine.execTripAck l k id s
  | .restored l k => Sys2Proof.Machine.execRestored l k s
  | .lockout l k => Sys2Proof.Machine.execLockout l k s
  | .blockAdd l k tag => Sys2Proof.Machine.execBlockAdd l k tag s
  | .blockDel l k tag => Sys2Proof.Machine.execBlockDel l k tag s
  | .blockSet l k tags => Sys2Proof.Machine.execBlockSet l k tags s
  | .badFrame l rx => Sys2Proof.Machine.execBadFrame l rx s
  | .frameTransmit l => Sys2Proof.Machine.execFrameTransmit l s
  | .heartbeatExpiry l => Sys2Proof.Machine.execHeartbeatExpiry l s
  | .lossTimerExpiry l => Sys2Proof.Machine.execLossTimerExpiry l s
  | .refreshExpiry l => Sys2Proof.Machine.execRefreshExpiry l s
  | .retryExpiry l k => Sys2Proof.Machine.execRetryExpiry l k s
  | .resetSilenceEnd l => Sys2Proof.Machine.execResetSilenceEnd l s
  | .attachJournal p => Sys2Proof.Machine.execAttachJournal p s
  | .detachJournal p => Sys2Proof.Machine.execDetachJournal p s
  | .fetchEvent p => Sys2Proof.Machine.execFetchEvent p s
  | .setAttentionMask p mask => Sys2Proof.Machine.execSetAttentionMask p mask s
  | .readJournalState p => Sys2Proof.Machine.execReadJournalState p s
  | .readRecord p slot first count => Sys2Proof.Machine.execReadRecord p slot first count s
  | .selectLow p bytes => Sys2Proof.Machine.execSelectLow p bytes s
  | .selectRaised p => Sys2Proof.Machine.execSelectRaised p s
  | .unknownCommand p code => Sys2Proof.Machine.execUnknownCommand p code s
  | .readStatus p => Sys2Proof.Machine.execReadStatus p s
  | .readConditions p => Sys2Proof.Machine.execReadConditions p s
  | .readMeasurements p => Sys2Proof.Machine.execReadMeasurements p s
  | .readFeeder p feeder => Sys2Proof.Machine.execReadFeeder p feeder s
  | .readSection p sec => Sys2Proof.Machine.execReadSection p sec s
  | .readRectifier p => Sys2Proof.Machine.execReadRectifier p s
  | .readTracker p => Sys2Proof.Machine.execReadTracker p s
  | .readLink p link => Sys2Proof.Machine.execReadLink p link s
  | .readSetting p id => Sys2Proof.Machine.execReadSetting p id s
  | .writeSetting p id value => Sys2Proof.Machine.execWriteSetting p id value s
  | .gateTestDriveEnd => Sys2Proof.Machine.execGateTestDriveEnd s

end Sys2Proof.Machine
end

