-- ==== Sys2Proof/Safety.lean ====
section
/-! DEFINITION. What must hold of every state of the TS62: the invariants that every step keeps, by unit. -/

namespace Sys2Proof.Machine

/-! ## Sections and the journal -/

/-- Every section stands in the coordination map that the settings form (08 R144, R145). -/
def State.MapFollowsSettings (s : State) : Prop := ∀ f : Feeder, s.sections[f].mapping = s.settings.mapping f

/-- The sequence numbers that the last `n` entries before a counter carry (09 R156). -/
def numbersBefore (counter : Stamp) (n : Nat) : List Stamp :=
  (List.range n).map fun i => counter - BitVec.ofNat 32 (n - i)

/-- The journal has at most 256 entries, numbered without a gap up to the sequence counter (09 R156, R158). -/
def State.JournalNumbered (s : State) : Prop :=
  s.journal.entries.length ≤ Config.journalDepth
    ∧ s.journal.entries.map Entry.seq = numbersBefore s.journal.seq s.journal.entries.length

/-- An attached reader's cursor "lies between the sequence number of the oldest entry and the sequence counter, both
inclusive": it is that of an entry, or the counter (09, 9.2). -/
def State.CursorsPlaced (s : State) : Prop :=
  ∀ (p : Port) (c : Stamp), (s.readers.get p).cursor = some c →
    c = s.journal.seq ∨ c ∈ s.journal.entries.map Entry.seq

/-- A slot that is not FREE is the record of exactly one entry of the journal, and a FREE slot of none (09 R166,
R170). -/
def State.RecordsReferenced (s : State) : Prop :=
  ∀ k : Fin 8, (s.journal.entries.countP fun e => e.ref = some k) = if s.slots[k].state = .free then 0 else 1

/-! ## Gates (03 R44) -/

/-- "A thyristor gate is pulsed only in two situations" (03 R44): the second is a gate test, which stands only while the
AC breaker shows open and EOFF is released (R50, R52). -/
def State.GatesAllowed (s : State) : Prop :=
  (s.rect.state = .gateTest → s.inputs.acClosed = false ∧ s.inputs.eoff = false)
    ∧ ∀ k : Gate, s.rect.gates[k].driven = true → s.mayFire = true ∨ s.rect.state = .gateTest

/-! ## Feeders (05, 06, 07) -/

/-- What a context holds in each of its states: causes, disposition, automatic flag and timers (05, 5.1). -/
def Context.Sound (c : Context) : Prop :=
  (c.lock.isSome = true ↔ c.state = .locked)
    ∧ (c.disp.isSome = true ↔ c.state = .tripping ∨ c.state = .stuck)
    ∧ (c.wait.isSome = true ↔ c.state = .deadTime)
    ∧ (c.deadTimer.isSome = true ↔ c.state = .deadTime ∧ c.wait = some .timed)
    ∧ (c.tripTimer.isSome = true ↔ c.state = .tripping)
    ∧ (c.closeTimer.isSome = true ↔ c.state = .closing)
    ∧ (c.reclaimTimer.isSome = true → c.state = .closed)
    ∧ (c.auto = true → c.state ≠ .opened ∧ c.state ≠ .locked ∧ c.state ≠ .deadTime ∧ c.state ≠ .waitPeer)
    ∧ (c.followTimer.isSome = true → c.state = .waitPeer ∨ c.state = .tripping ∧ c.disp = some .follow)

/-- The line test unit holds the QUEUED feeders, each once, and tests the TESTING one (06 R104). -/
def State.TestsSound (s : State) : Prop :=
  s.lineTest.queue.Nodup ∧ (∀ f : Feeder, f ∈ s.lineTest.queue ↔ s.fstate f = .queued)
    ∧ (∀ f : Feeder, s.lineTest.tested = some f ↔ s.fstate f = .testing)
    ∧ (s.lineTest.timer.isSome = true ↔ s.lineTest.tested.isSome = true)

/-- The position input shows closed exactly in CLOSED, TRIPPING and STUCK (05, 5.1). -/
def State.PositionsSound (s : State) : Prop :=
  ∀ f : Feeder, s.shows f = true ↔ s.fstate f = .closed ∨ s.fstate f = .tripping ∨ s.fstate f = .stuck

/-- A section that is earthed or holds a block is dead or on its way to be: its feeder is OPEN, LOCKED, TRIPPING or
STUCK, so no close is under way on it (05 R85, R97; 07 R119, R121, R125, R127). -/
def State.BarredSafe (s : State) : Prop :=
  ∀ f : Feeder, s.barred f = true →
    s.fstate f = .opened ∨ s.fstate f = .locked ∨ s.fstate f = .tripping ∨ s.fstate f = .stuck

/-- The feeders stand as the rules of the sequencer, of the line test unit and of the interlocks leave them. -/
def State.FeedersSafe (s : State) : Prop :=
  (∀ f : Feeder, s.ctx[f].Sound) ∧ s.TestsSound ∧ s.PositionsSound ∧ s.BarredSafe

/-! ## Conditions (10 R178) -/

/-- A section is SINGLE exactly while it is not mapped (07, 7.1; R130). -/
def State.SinglesUnmapped (s : State) : Prop :=
  ∀ f : Feeder, s.sections[f].coord = .single ↔ s.sections[f].mapping = none

/-- Every condition that is present is latched in both ports' words (10 R178, R179). -/
def State.LatchesShow (s : State) : Prop :=
  ∀ (p : Port) (b : Latch), s.present b = true → (s.ports.get p).latches &&& b.bit = b.bit

/-- The latch words show the conditions, in a section table that is sound. -/
def State.ConditionsLatched (s : State) : Prop := s.SinglesUnmapped ∧ s.LatchesShow

end Sys2Proof.Machine
end

