-- ==== Sys2Proof/Certificates/Slice0/Obligations.lean ====
section
/-! DEFINITION. The statements for the provers, chapter by chapter of the spec. Each docstring is the statement's title;
what the statement says in full, and the rules it rests on, stand in OBLIGATIONS.json. -/

section Statements

open Sys2Proof Sys2Proof.Machine

/-! ## The queue, the resets, the sample unit and the tracker (01, 02) -/

/-- A step runs the command at the front of the queue on the rest of the queue. -/
def Obligations.StepRunsTheFrontCommand : Prop :=
  ∀ (c : Instr) (rest : List Instr) (s : State),
    step { s with pending := c :: rest } = exec c { s with pending := rest }

/-- On an empty queue a trip request on its way is taken, or a due event joins the queue, or one tick of 0.1 µs
passes. What it says beyond the spec is the model's own, by log 1, 10, 11. -/
def Obligations.EmptyQueuePassesTime : Prop :=
  ∀ s : State, s.pending = [] →
    (∀ r rest, s.trips.calls = r :: rest →
      step s = .next (({ s with trips := ⟨rest, s.trips.late⟩ } : State).takeTrip r).settle) ∧
    (∀ c rest, s.trips.calls = [] → s.dueNow = c :: rest → step s = .next { s with pending := [c] }) ∧
    (s.trips.calls = [] → s.dueNow = [] →
      let down (t : Option Nat) : Option Nat := t.map (· - 1)
      let runs (k : LinkUnit) : LinkUnit := { k with
        silence := down k.silence, heartbeat := down k.heartbeat, loss := down k.loss, refresh := down k.refresh
        idx := k.idx.map fun x => { x with out := x.out.map fun o => { o with retry := o.retry - 1 } } }
      step s = .next { s with
        time :=
          if s.time.sub + 1 < 10000 then ⟨s.time.stamp + 1, s.time.ms, s.time.sub + 1⟩
          else ⟨s.time.stamp + 1, s.time.ms + 1, 0⟩
        sample := { s.sample with watchdog := down s.sample.watchdog, blindTimer := down s.sample.blindTimer }
        rect := { s.rect with
          restart := down s.rect.restart
          test := { s.rect.test with
            stepTimer := down s.rect.test.stepTimer, driveTimer := down s.rect.test.driveTimer } }
        ctx := s.ctx.map fun c => { c with
          tripTimer := down c.tripTimer, closeTimer := down c.closeTimer, deadTimer := down c.deadTimer
          reclaimTimer := down c.reclaimTimer, followTimer := down c.followTimer }
        lineTest := { s.lineTest with timer := down s.lineTest.timer }
        links := ⟨runs s.links.u, runs s.links.d⟩ })

/-- Every command answers a next state and leaves the queue as it found it. -/
def Obligations.EveryCommandCompletes : Prop :=
  ∀ (c : Instr) (s : State), ∃ t, exec c s = .next t ∧ t.pending = s.pending

/-- What a power-on reset leaves, unit by unit, whatever the state before and the levels of the inputs. What it says
beyond the spec is the model's own, by log 1, 4, 10, 16, 17, 24, 28. -/
def Obligations.PowerOnResetLeaves : Prop :=
  ∀ (inp : Inputs) (s : State), ∃ t, exec (.powerOnReset inp) s = .next t ∧
    t.inputs = inp ∧ t.time = ⟨0, 0, 0⟩ ∧ t.sample = SampleUnit.reset 20 ∧ t.tracker = Tracker.reset none ∧
    t.rect = Rectifier.reset 900 0 false ∧ t.disc = Vector.replicate 6 (Disc.reset 0) ∧ t.lineTest = LineTest.reset ∧
    t.sections = Vector.replicate 6 (Section.reset none [] [] false) ∧ t.startHold = true ∧
    t.links = ⟨LinkUnit.reset, LinkUnit.reset⟩ ∧ t.journal = ⟨[⟨0, 0, .reset, .none, .powerOn, 0, none⟩], 1⟩ ∧
    t.readers = ⟨⟨none, 0, 0x3F⟩, ⟨none, 0, 0x3F⟩⟩ ∧ t.slots = Vector.replicate 8 Slot.freed ∧
    t.settings = Settings.defaults ∧ t.trips = ⟨[], s.trips.late⟩ ∧ t.pending = s.pending ∧
    (∀ p : Port, t.ports.get p = ⟨.idle, [], false, 0x0807 ||| (if inp.eoff then 0x0400 else 0), 0, []⟩) ∧
    (∀ f : Feeder, t.ctx[f] =
      if inp.breaker[f] && (inp.earth[f] || inp.eoff) then
        { Context.reset true with
          state := .tripping, lastTrip := some .interlock, disp := some .opened, tripTimer := some 800000 }
      else Context.reset inp.breaker[f])

/-- What a warm reset keeps and what it leaves, unit by unit. What it says beyond the spec is the model's own, by log
1, 4, 10, 16, 17, 24, 28. -/
def Obligations.WarmResetKeeps : Prop :=
  ∀ (inp : Inputs) (s : State), ∃ t, exec (.warmReset inp) s = .next t ∧
    t.settings = s.settings ∧ t.inputs = inp ∧ t.time = ⟨s.time.stamp, 0, 0⟩ ∧
    t.trips = ⟨[], s.trips.late⟩ ∧ t.pending = s.pending ∧
    t.sample = SampleUnit.reset (s.g .blindTime) ∧ t.tracker = Tracker.reset s.tracker.period ∧
    t.rect = Rectifier.reset s.settings.alphaMax' s.rect.fa s.rect.hot ∧
    (∀ f : Feeder, t.disc[f] = Disc.reset s.disc[f].fine) ∧ t.lineTest = LineTest.reset ∧
    (∀ f : Feeder, t.sections[f] =
      ⟨s.settings.mapping f, if (s.settings.mapping f).isSome then .uncoordinated else .single,
        s.sections[f].blocks.map fun b => ⟨b.origin, b.tag, !inp.breaker[f]⟩, s.sections[f].peers,
        s.sections[f].overflow, none⟩) ∧
    t.startHold = true ∧ t.links = ⟨LinkUnit.reset, LinkUnit.reset⟩ ∧
    t.journal = ⟨[⟨0, 0, .reset, .none, .warm, 0, none⟩], 1⟩ ∧
    t.readers = ⟨⟨none, 0, 0x3F⟩, ⟨none, 0, 0x3F⟩⟩ ∧ t.slots = Vector.replicate 8 Slot.freed ∧
    (∀ p : Port, t.ports.get p = ⟨.idle, [], false,
      0x0807 ||| (if feeders.any fun f => (s.settings.mapping f).any fun m => m.link = .u then 0x0008 else 0)
        ||| (if feeders.any fun f => (s.settings.mapping f).any fun m => m.link = .d then 0x0010 else 0)
        ||| (if feeders.any fun f => (s.settings.mapping f).isSome then 0x0020 else 0)
        ||| (if s.rect.hot then 0x0040 else 0) ||| (if s.settings.mapLoss then 0x0200 else 0)
        ||| (if inp.eoff then 0x0400 else 0), 0, []⟩) ∧
    (∀ f : Feeder, t.ctx[f] =
      if inp.breaker[f] && (inp.earth[f] || !s.sections[f].blocks.isEmpty || !s.sections[f].peers.isEmpty
          || s.sections[f].overflow || inp.eoff) then
        { Context.reset true with
          state := .tripping, lastTrip := some .interlock, disp := some .opened
          tripTimer := some (msTicks (s.g .tripTimeMax)) }
      else Context.reset inp.breaker[f])

/-- A raw code is conditioned by the table for current and voltage channels. -/
def Obligations.RawCodesAreConditioned : Prop :=
  ∀ (k : ChannelNo) (code : Int), condition k code =
    if code = -32768 then none
    else if k.val < 6 ∨ k.val = 13 ∨ k.val = 14 ∨ k.val = 15 then
      some (if code = 32767 then 20000 else if code = -32767 then -20000
        else if code < -20000 then -20000 else if 20000 < code then 20000 else code)
    else
      some (if code = 32767 then 2000 else if code = -32767 then 0
        else if code < 0 then 0 else if 2000 < code then 2000 else code)

/-- A transfer of 33 bytes is taken as a set in either state; any other is discarded and counted. -/
def Obligations.TakenSetUpdatesSampleUnit : Prop :=
  ∀ (bytes : List Byte) (s : State),
    (bytes.length ≠ 33 → exec (.sampleSetArrival bytes) s =
      .next { s with sample := { s.sample with setErrors := satInc 65535 s.sample.setErrors } }) ∧
    (bytes.length = 33 → ∃ t, exec (.sampleSetArrival bytes) s = .next t ∧
    (∀ k : ChannelNo, t.sample.channels[k] =
      match condition k (signed16 (bytes.getD (1 + 2 * k.val) 0) (bytes.getD (2 + 2 * k.val) 0)) with
      | some v => ⟨some v, 0⟩
      | none => ⟨s.sample.channels[k].latest, satInc 65535 s.sample.channels[k].invalidRun⟩) ∧
    t.sample.expect = some (bytes.getD 0 0 + 1) ∧
    t.sample.gapCount = (match s.sample.expect with
      | none => s.sample.gapCount
      | some e => if e = bytes.getD 0 0 then s.sample.gapCount else satInc 65535 s.sample.gapCount) ∧
    t.sample.watchdog = some 10000 ∧ t.sample.setErrors = s.sample.setErrors ∧
    (∀ f : Feeder, t.sample.failed[f] =
      if s.sample.failed[f] then decide (t.sample.channels[chI f].invalidRun ≠ 0)
      else decide (16 ≤ t.sample.channels[chI f].invalidRun)) ∧
    t.inputs = s.inputs ∧ t.tracker = s.tracker ∧ t.settings = s.settings ∧ t.sections = s.sections ∧
    t.startHold = s.startHold ∧ t.time = s.time ∧ t.pending = s.pending ∧
    (∀ p : Port, (t.ports.get p).phase = (s.ports.get p).phase ∧ (t.ports.get p).buffer = (s.ports.get p).buffer))

/-- A set taken in BLIND advances the resume count and is not delivered; the fourth makes the state LIVE. What it says
beyond the spec is the model's own, by log 10, 11, 12, 21, 26, 38. -/
def Obligations.SetTakenInBlindAdvancesResumption : Prop :=
  ∀ (bytes : List Byte) (s : State) (x : SampleSet), parseSet bytes = some x → s.sample.state = .blind →
    let n := if s.sample.resume = 0 ∨ s.sample.expect.any (fun e => e != x.seq) = true then 1 else s.sample.resume + 1
    let a := ((s.modSample fun u => u.takeSet x).checkChannels).modSample fun u => { u with resume := n }
    let live : State := (({ a with sample := { a.sample with state := .live, blindTimer := none } } : State).tryRestart).append
      .measState .none .measLive 0
    let row : RingRow :=
      ⟨x.seq, true, Vector.ofFn fun f => condition (chI f) x.codes[chI f], condition chBus x.codes[chBus]⟩
    let b := live.modSample fun u =>
      { u with
        rings := (if u.rings.length < 64 then u.rings else u.rings.tail) ++ [row]
        newest := some ⟨x.seq, Vector.ofFn fun f => u.channels[chI f].latest⟩ }
    let seen := (feeders.foldl (fun (t : State) (f : Feeder) => t.evaluate f true) b).fillSlots row
    let offered : State := seen.trips.calls.foldl (fun (t : State) (r : TripCall) =>
      match t.trips.late with
      | true :: later => { t with trips := ⟨t.trips.calls ++ [r], later⟩ }
      | false :: later => ({ t with trips := ⟨t.trips.calls, later⟩ } : State).takeTrip r
      | [] => t.takeTrip r) { seen with trips := ⟨[], seen.trips.late⟩ }
    ∃ t, exec (.sampleSetArrival bytes) s = .next t ∧ t.sample.resume = n ∧
      (n < 4 → t = a.settle ∧ t.sample.state = .blind ∧ t.sample.blindTimer = s.sample.blindTimer ∧
        t.sample.rings = s.sample.rings ∧ t.sample.newest = s.sample.newest ∧ t.disc = s.disc ∧ t.rect = s.rect) ∧
      (4 ≤ n → t = offered.addSums.busStep.absorber.settle ∧ t.sample.state = .live ∧ t.sample.blindTimer = none ∧
        t.sample.rings.getLast? = some row)

/-- A set taken in LIVE is delivered: rings, discriminator, recorder, rectifier controller, in that order. What it
says beyond the spec is the model's own, by log 10, 11, 12, 26. -/
def Obligations.LiveSetIsDeliveredInOrder : Prop :=
  ∀ (bytes : List Byte) (s : State) (x : SampleSet), parseSet bytes = some x → s.sample.state = .live →
    let gap := s.sample.expect.any fun e => e != x.seq
    let a := (s.modSample fun u => u.takeSet x).checkChannels
    let row : RingRow := ⟨x.seq, gap, Vector.ofFn fun f => condition (chI f) x.codes[chI f], condition chBus x.codes[chBus]⟩
    let b := a.modSample fun u =>
      { u with
        rings := (if u.rings.length < 64 then u.rings else u.rings.tail) ++ [row]
        newest := some ⟨x.seq, Vector.ofFn fun f => u.channels[chI f].latest⟩ }
    let seen := (feeders.foldl (fun (t : State) (f : Feeder) => t.evaluate f gap) b).fillSlots row
    let offered : State := seen.trips.calls.foldl (fun (t : State) (r : TripCall) =>
      match t.trips.late with
      | true :: later => { t with trips := ⟨t.trips.calls ++ [r], later⟩ }
      | false :: later => ({ t with trips := ⟨t.trips.calls, later⟩ } : State).takeTrip r
      | [] => t.takeTrip r) { seen with trips := ⟨[], seen.trips.late⟩ }
    exec (.sampleSetArrival bytes) s = .next offered.addSums.busStep.absorber.settle

/-- A feeder current channel fails at a run of 16, by the blind action, and is restored by a valid sample. What it
says beyond the spec is the model's own, by log 38. -/
def Obligations.ChannelFailureActs : Prop :=
  ∀ (s : State) (f : Feeder),
    let run := s.sample.channels[chI f].invalidRun
    let setTo (b : Bool) : State := { s with sample := { s.sample with failed := s.sample.failed.set f b } }
    (s.sample.failed[f] = false → 16 ≤ run →
      s.checkChannel f =
        (((if s.g .blindAction = 0 then (setTo true).tripRequest f .blind (.locked .blind) 16 0 else setTo true).append
          .measState (.feeder f) .channelFailed 0).onsetIf (!s.anyFailed && decide (s.sample.state = .live)) .measBlind)) ∧
    (s.sample.failed[f] = true → run = 0 →
      s.checkChannel f = (setTo false).append .measState (.feeder f) .channelRestored 0) ∧
    (s.sample.failed[f] = false → run < 16 → s.checkChannel f = s) ∧
    (s.sample.failed[f] = true → run ≠ 0 → s.checkChannel f = s)

/-- Expiry of the sample watchdog makes measurement BLIND, empties the rings and makes each FILLING record SEALED,
truncated, pairs kept. What it says beyond the spec is the model's own, by log 2, 26, 30, 38. -/
def Obligations.WatchdogExpiryMakesBlind : Prop :=
  ∀ s : State,
    let shut (k : Fin 8) : Slot := { s.slots[k] with state := .sealed, truncated := true }
    let close (t : State) (k : Fin 8) : State :=
      if t.slots[k].state = .filling then
        ({ t with slots := t.slots.set k { t.slots[k] with state := .sealed, truncated := true } } : State).retire
      else t
    let blind : State := { s with sample := { s.sample with
      watchdog := none, state := .blind, blindTimer := some ((s.g .blindTime).toNat * 10000)
      blindLoaded := s.g .blindTime, resume := 0, rings := [] } }
    let kept := ([0, 1, 2, 3, 4, 5, 6, 7] : List (Fin 8)).foldl close blind
    let off : State := { kept with rect := { s.rect with absDemand := false } }
    let told :=
      if s.rect.absDemand = true ∧ s.inputs.eoff = false ∧ s.rect.hot = false then
        off.append .absorber .none .absorberOff (s.sample.channels[chBus].latest.getD 0)
      else off
    let entered := told.append .measState .none .measBlind 0
    ∃ t, exec .sampleWatchdogExpiry s = .next t ∧
    (s.sample.watchdog ≠ some 0 → t = s) ∧
    (s.sample.watchdog = some 0 → s.sample.state = .blind →
      t = { s with sample := { s.sample with watchdog := none, resume := 0 } }) ∧
    (s.sample.watchdog = some 0 → s.sample.state = .live →
      t = (if s.anyFailed = true then entered else entered.onset .measBlind) ∧
      t.sample = blind.sample ∧ t.rect = { s.rect with absDemand := false } ∧
      (∀ k : Fin 8, t.slots[k] = Slot.freed ∨
        t.slots[k] = if s.slots[k].state = .filling then shut k else s.slots[k]) ∧
      (∃ n, t.journal.entries.getLast? = some ⟨n, s.time.ms, .measState, .none, .measBlind, 0, none⟩) ∧
      (s.anyFailed = false → ∀ p : Port, (t.ports.get p).latches &&& 0x0004 = 0x0004) ∧
      t.inputs = s.inputs ∧ t.time = s.time ∧ t.tracker = s.tracker ∧ t.disc = s.disc ∧ t.ctx = s.ctx ∧
      t.lineTest = s.lineTest ∧ t.sections = s.sections ∧ t.startHold = s.startHold ∧ t.links = s.links ∧
      t.settings = s.settings ∧ t.trips = s.trips ∧ t.pending = s.pending)

/-- Expiry of the blind timer in BLIND applies the blind action and is journaled with the loaded blind_time. What it
says beyond the spec is the model's own, by log 2, 11, 12. -/
def Obligations.BlindTimerExpiryActs : Prop :=
  ∀ s : State,
    let u : State := { s with sample := { s.sample with blindTimer := none } }
    exec .blindTimerExpiry s = .next (
      if s.sample.blindTimer ≠ some 0 then s
      else if s.sample.state = .live then u
      else
        ((if s.g .blindAction = 0 then
            (([0, 1, 2, 3, 4, 5] : List Feeder).foldl
              (fun t f => t.tripRequest f .blind (.locked .blind) 0 0) u).blockRequest .blind none
          else u).append .measState .none .blindExpired s.sample.blindLoaded).settle)

/-- Period correction moves P by an eighth of the error, at most max_adjust, inside 181,818 to 222,222. -/
def Obligations.PeriodCorrectionIsBounded : Prop :=
  ∀ (s : State) (p : Int) (measured : Nat), s.tracker.period = some p →
    let e : Int := measured - p
    let adj := (if e < 0 then -1 else if e = 0 then 0 else 1) * min ((e.natAbs / 8 : Nat) : Int) (s.g .maxAdjust)
    s.correction measured = max 181818 (min (p + adj) 222222) ∧
      181818 ≤ s.correction measured ∧ s.correction measured ≤ 222222

/-- A crossing is a glitch, or is handled by the rule of the tracker state, with its entry and its notice. What it
says beyond the spec is the model's own, by log 3, 38. -/
def Obligations.CrossingIsHandledByTrackerState : Prop :=
  ∀ (width : Nat) (s : State),
    let t := s.time.stamp
    let k := s.tracker
    let measured := (t - k.prev.getD 0).toNat
    let e : Int := measured - k.period.getD 0
    let p := s.correction measured
    let hold := max (s.g .holdWindow) (s.g .lockWindow)
    let wait : Stamp := t + BitVec.ofInt 32 (222222 + s.g .holdWindow)
    let next : Stamp := t + BitVec.ofInt 32 (p + hold)
    let goes (j : Tracker) : State := { s with tracker := { j with prev := some t } }
    exec (.crossing width) s = .next (
      if k.state ≠ .unsync ∧ measured < 20000 then { s with tracker := { k with glitches := satInc 65535 k.glitches } }
      else
        match k.state with
        | .unsync =>
          ((goes { k with state := .acquire, good := 0, holdover := 0, deadline := some wait }).append .syncState .none
            (.sync .firstCrossing) 0).notice ⟨.acquire, none, k.period⟩
        | .acquire =>
          if (measured : Int) < 181818 ∨ 222222 < (measured : Int) then
            goes { k with ranges := satInc 65535 k.ranges, good := 0, deadline := some wait }
          else if k.period = none then goes { k with period := some (measured : Int), good := 0, deadline := some wait }
          else if (e.natAbs : Int) ≤ s.g .lockWindow then
            if k.good + 1 < 4 then goes { k with period := some p, good := k.good + 1, deadline := some wait }
            else
              ((goes { k with
                  state := .locked, period := some p, good := 4, holdover := 0, deadline := some next }).append
                .syncState .none (.sync .lockComplete) e).notice ⟨.locked, some ⟨t, false⟩, some p⟩
          else goes { k with period := some p, good := 0, deadline := some wait }
        | .locked =>
          if (e.natAbs : Int) ≤ hold then
            (goes { k with period := some p, deadline := some next }).notice ⟨.locked, some ⟨t, false⟩, some p⟩
          else
            (((goes { k with
                state := .acquire, good := 0, slips := satInc 65535 k.slips, deadline := some wait }).append .syncState
              .none (.sync .slip) e).onset .syncNotLocked).notice ⟨.acquire, none, k.period⟩
        | .holdover =>
          if (e.natAbs : Int) ≤ hold then
            ((goes { k with state := .locked, period := some p, holdover := 0, deadline := some next }).append .syncState
              .none (.sync .recovered) e).notice ⟨.locked, some ⟨t, false⟩, some p⟩
          else
            ((goes { k with state := .acquire, good := 0, holdover := 0, deadline := some wait }).append .syncState .none
              (.sync .reacquire) e).notice ⟨.acquire, none, k.period⟩)

/-- Expiry of a tracker deadline leaves ACQUIRE, or places a synthetic instant up to holdover_max, or gives UNSYNC.
What it says beyond the spec is the model's own, by log 2, 38. -/
def Obligations.DeadlineExpiryActs : Prop :=
  ∀ s : State,
    let k := s.tracker
    let p := k.period.getD 0
    let instant : Stamp := k.prev.getD 0 + BitVec.ofInt 32 p
    let next : Stamp := instant + BitVec.ofInt 32 (p + max (s.g .holdWindow) (s.g .lockWindow))
    let lost (c : SyncChange) : State :=
      ({ s with tracker := { k with state := .unsync, good := 0, holdover := 0, deadline := none } } : State).append
        .syncState .none (.sync c) p
    let place (n : Nat) : State :=
      { s with tracker := { k with state := .holdover, prev := some instant, holdover := n, deadline := some next } }
    let gone : Notice := ⟨.unsync, none, k.period⟩
    let missed : Notice := ⟨.holdover, some ⟨instant, true⟩, k.period⟩
    let runs (st : TrackerState) : Bool :=
      k.deadline.any (fun d => decide ((s.time.stamp - d).toNat < 2147483648)) && decide (k.state = st)
    exec .acquireDeadlineExpiry s = .next (if runs .acquire then (lost .acquireTimeout).notice gone else s) ∧
    exec .lockedDeadlineExpiry s = .next (
      if runs .locked then
        if 0 < s.g .holdoverMax then
          (((place 1).append .syncState .none (.sync .missed) p).onset .syncNotLocked).notice missed
        else ((lost .missedNoHoldover).onset .syncNotLocked).notice gone
      else s) ∧
    exec .holdoverDeadlineExpiry s = .next (
      if runs .holdover then
        if ((k.holdover + 1 : Nat) : Int) ≤ s.g .holdoverMax then (place (k.holdover + 1)).notice missed
        else (lost .holdoverExhausted).notice gone
      else s)

/-- Every step keeps the period estimate, when present, within 181,818 to 222,222 ticks. -/
def Obligations.PeriodEstimateStaysInRange : Prop :=
  ∀ s t : State, (∀ p, s.tracker.period = some p → 181818 ≤ p ∧ p ≤ 222222) → step s = .next t →
    ∀ p, t.tracker.period = some p → 181818 ≤ p ∧ p ≤ 222222

/-! ## The rectifier controller (03) -/

/-- A scheduled pulse begins and ends, and feedback sets the mark of a pulse that is driven. What it says beyond the
spec is the model's own, by log 2, 16, 17. -/
def Obligations.GatePulsesBeginAndEnd : Prop :=
  ∀ (g : Gate) (s : State),
    let r := s.rect
    let fires := (r.state = .starting ∨ r.state = .running ∨ r.state = .shifting)
      ∧ (s.tracker.state = .locked ∨ s.tracker.state = .holdover) ∧ s.inputs.eoff = false ∧ s.inputs.acClosed = true
    let reached (t : Stamp) : Bool := decide ((s.time.stamp - t).toNat < 2147483648)
    let train : Int := 1200 * (r.period.map Period.p).getD 0 / 3600
    exec (.gatePulseStart g) s = .next (
      match r.schedule.find? fun q => q.gate = g with
      | none => s
      | some q =>
        if reached q.start = false then s
        else
          { s with
            rect := { r with
              schedule := r.schedule.filter fun x => x.gate != g
              gates := if fires then
                  r.gates.set g ⟨true, some (q.start + BitVec.ofInt 32 train), false, true, r.gates[g].miss⟩
                else r.gates } }) ∧
    exec (.gatePulseEnd g) s = .next (
      if r.gates[g].endAt.any reached = false then s
      else { s with rect := { r with gates := r.gates.set g { r.gates[g] with driven := false, endAt := none } } }) ∧
    exec (.gateFeedback g) s = .next (
      if r.state = .gateTest then
        { s with rect := { r with test := { r.test with feedback := r.test.feedback.set g true } } }
      else if r.gates[g].driven = true ∧ r.gates[g].fired = true then
        { s with rect := { r with gates := r.gates.set g { r.gates[g] with seen := true } } }
      else s)

/-- Each gate's pulse begins at its firing phase after the instant, unless that moment has passed. -/
def Obligations.PeriodIsScheduled : Prop :=
  ∀ (s : State) (per : Period),
    let offset (k : Gate) : Int :=
      ((s.rect.alpha + (if 6 ≤ k.val then 300 else 0) + ((k.val % 6 : Nat) : Int) * 600 + per.phaseRef) % 3600) * per.p / 3600
    s.scheduleNow per = { s with
      rect := { s.rect with
        schedule := ([0, 1, 2, 3, 4, 5, 6, 7, 8, 9, 10, 11] : List Gate).filterMap fun k =>
          if offset k ≤ ((s.time.stamp - per.instant).toNat : Int) then none
          else some ⟨k, per.instant + BitVec.ofInt 32 (offset k)⟩ } }

/-- The regulator forms the means of the period, its bounded step and the new firing angle. What it says beyond the
spec is the model's own, by log 29. -/
def Obligations.RegulatorSetsFiringAngle : Prop :=
  ∀ s : State,
    let r := s.rect
    let v := r.sumV / (r.countV : Int)
    let i := if r.countI = 0 then 0 else r.sumI / (r.countI : Int)
    let free := max (-(s.g .slew)) (min ((s.g .vSet - v) * s.g .gain / 16) (s.g .slew))
    let raw := if s.g .iLim < i then -(s.g .slew) else free
    let step :=
      if r.state = .starting then
        (if 0 ≤ raw then min raw (s.g .startSlew) else if s.g .iLim < i then raw else 0)
      else raw
    let alpha := max (s.g .alphaMin) (min (r.alpha - step) (max (s.g .alphaMax) (s.g .alphaMin)))
    let fits (n : Nat) : Bool := decide (n < 65535)
    (s.regulate =
      if r.countV = 0 then { s with rect := { r with noData := satInc 65535 r.noData } }
      else if r.state = .starting ∧ (s.g .vSet ≤ v ∨ alpha = s.g .alphaMin) then
        ({ s with rect := { r with vMeas := some v, iMeas := some i, alpha := alpha, state := .running } } : State).append
          .rectState .none (.rect .running .none) alpha
      else { s with rect := { r with vMeas := some v, iMeas := some i, alpha := alpha } }) ∧
    (s.addSums =
      if r.state = .starting ∨ r.state = .running then
        let a := match s.reading chBus with
          | some x => if fits r.countV then { r with sumV := r.sumV + x, countV := r.countV + 1 } else r
          | none => r
        { s with
          rect := match s.reading chA, s.reading chB with
            | some x, some y => if fits a.countI then { a with sumI := a.sumI + (x + y), countI := a.countI + 1 } else a
            | some _, none => a
            | none, _ => a }
      else s)

/-- At a reference instant: gate verdicts, then regulator and schedule or shift count, then cleared sums. What it says
beyond the spec is the model's own, by log 16, 17. -/
def Obligations.ReferenceInstantIsTaken : Prop :=
  ∀ (s : State) (instant : Stamp) (p : Int),
    let per : Period := ⟨instant, p, s.g .phaseRef⟩
    let loaded : State := { s with rect := { s.rect with schedule := [], period := some per } }
    let judged : State := { loaded with
      rect := { loaded.rect with
        gates := Vector.ofFn fun k =>
          let x := s.rect.gates[k]
          if x.fired then { x with fired := false, miss := if x.seen then 0 else satInc 3 x.miss } else x } }
    let verdicts := (([0, 1, 2, 3, 4, 5, 6, 7, 8, 9, 10, 11] : List Gate).filter fun k =>
        s.rect.gates[k].fired && !s.rect.gates[k].seen && decide (s.rect.gates[k].miss = 2)).foldl
      (fun t k => t.blockRequest .gateFault (some k)) judged
    let clear (t : State) : State :=
      { t with rect := { t.rect with sumV := 0, countV := 0, sumI := 0, countI := 0 } }
    s.takeInstant instant p =
      if s.rect.state = .starting ∨ s.rect.state = .running ∨ s.rect.state = .shifting then
        clear (
          if s.rect.state = .shifting then
            let t : State := { verdicts with
              rect := { verdicts.rect with shiftCount := satInc 2 verdicts.rect.shiftCount } }
            if t.rect.shiftCount < 2 then t.scheduleNow per else t.finishShift (t.rect.shiftEnd.getD .stopped) none
          else if verdicts.rect.state = .shifting then verdicts.scheduleNow per
          else if verdicts.rect.state = .starting ∨ verdicts.rect.state = .running then
            verdicts.regulate.scheduleNow per
          else verdicts)
      else
        clear { loaded with
          rect := { loaded.rect with gates := Vector.ofFn fun k => { s.rect.gates[k] with fired := false } } }

/-- The rectifier controller acts on a tracker notice by its state, then takes the instant it carries. What it says
beyond the spec is the model's own, by log 16, 17. -/
def Obligations.TrackerNoticeActsOnRectifier : Prop :=
  ∀ (s : State) (n : Notice),
    let runs := s.rect.state = .starting ∨ s.rect.state = .running
    let release (t : State) : State := { t with
      rect := { t.rect with
        schedule := if t.rect.state.firing then [] else t.rect.schedule
        gates := Vector.ofFn fun k =>
          if t.rect.state.firing then ⟨false, none, t.rect.gates[k].seen, false, t.rect.gates[k].miss⟩
          else { t.rect.gates[k] with fired := false } } }
    let t :=
      match n.state with
      | .acquire => release (if runs then s.beginShift (.blocked .syncLost) none else s)
      | .unsync =>
        if runs then (release s).enterBlocked .syncLost none
        else if s.rect.state = .shifting then (release s).finishShift (s.rect.shiftEnd.getD .stopped) none
        else release s
      | .locked => s.tryRestart
      | .holdover => s
    s.notice n = match n.instant with
      | some m => t.takeInstant m.time (n.period.getD 0)
      | none => t

/-- What entry to SHIFTING, BLOCKED and STOPPED does to the rectifier, and when it restarts on its own. What it says
beyond the spec is the model's own, by log 2, 17. -/
def Obligations.ShiftBlockStopAndRestart : Prop :=
  ∀ (s : State) (c : RectCause) (note : RectNote) (blame : Option Gate),
    let r := s.rect
    let released : Rectifier := { r with
      schedule := [], gates := Vector.ofFn fun k => { r.gates[k] with driven := false, endAt := none } }
    let hard : Bool := r.cause = some .busFault || r.cause = some .breakerFail || r.cause = some .gateFault || r.cause = some .eoff
    let journal (t : State) (n : RectNote) : State := match blame with
      | none => t.append .rectState .none (.rect t.rect.state n) t.rect.alpha
      | some k => t.append .rectState (if k.val < 6 then .groupA else .groupB) (.rect t.rect.state n)
          (((k.val % 6 : Nat) : Int) + 1)
    let inv := max (s.g .alphaInv) (max (s.g .alphaMax) (s.g .alphaMin))
    (∀ e : ShiftEnd, s.beginShift e blame = journal { s with
        rect := { r with
          state := .shifting, alpha := inv, shiftCount := 0, shiftEnd := some e
          schedule := match r.period with
            | none => []
            | some per => r.schedule.filterMap fun q => per.pulse inv s.time.stamp q.gate } }
      (match e with
        | .stopped => .cause .stop
        | .blocked x => .cause x)) ∧
    s.finishShift .stopped blame = s.enterStopped (.cause .stop) ∧
    s.finishShift (.blocked c) blame = s.enterBlocked c blame ∧
    s.enterStopped note =
      ({ s with rect := { released with state := .stopped, cause := none, restart := none } } : State).append .rectState
        .none (.rect .stopped note) r.alpha ∧
    s.enterBlocked c blame = (journal { s with
        rect := { released with
          state := .blocked, cause := some c
          restart := if c = .syncLost ∨ c = .blind then some ((s.g .restartWindow).toNat * 10000) else none } }
      (.cause c)).tryRestart ∧
    s.tryRestart = (
      if r.restart.isSome ∧ s.g .autoRestart = 1 ∧ s.startHold = false ∧ ¬ (r.state = .blocked ∧ hard = true)
          ∧ s.inputs.eoff = false ∧ s.inputs.acClosed = true ∧ s.tracker.state = .locked ∧ s.sample.state = .live
          ∧ (s.g .gateTestRequired = 0 ∨ r.test.result = .clean) then
        s.startUp .autoRestart
      else s) ∧
    exec .restartWindowExpiry s = .next (if r.restart = some 0 then { s with rect := { r with restart := none } } else s)

/-- A block request is taken against the rectifier state by the table, and joins the AC trip demands. -/
def Obligations.BlockRequestTable : Prop :=
  ∀ (s : State) (c : RectCause) (blame : Option Gate),
    c = .busFault ∨ c = .breakerFail ∨ c = .gateFault ∨ c = .blind ∨ c = .syncLost →
    let lockout : Bool := c = .busFault || c = .breakerFail || c = .gateFault
    let hard (x : Option RectCause) : Bool :=
      x = some .busFault || x = some .breakerFail || x = some .gateFault || x = some .eoff
    let journal (t : State) : State := match blame with
      | none => t.append .rectState .none (.rect t.rect.state (.cause c)) t.rect.alpha
      | some k => t.append .rectState (if k.val < 6 then .groupA else .groupB) (.rect t.rect.state (.cause c))
          (((k.val % 6 : Nat) : Int) + 1)
    let t : State :=
      match s.rect.state with
      | .stopped => if lockout then s.enterBlocked c blame else s
      | .gateTest => if lockout then s.abortGateTest.enterBlocked c blame else s
      | .starting => if s.tracker.state = .unsync then s.enterBlocked c blame else s.beginShift (.blocked c) blame
      | .running => if s.tracker.state = .unsync then s.enterBlocked c blame else s.beginShift (.blocked c) blame
      | .shifting =>
        let keeps := match s.rect.shiftEnd with
          | some (.blocked x) => hard (some x)
          | _ => false
        if lockout ∧ keeps = false then journal { s with rect := { s.rect with shiftEnd := some (.blocked c) } } else s
      | .blocked =>
        if lockout ∧ hard s.rect.cause = false then
          journal { s with rect := { s.rect with cause := some c, restart := none } }
        else s
    s.blockRequest c blame = { t with
      rect := { t.rect with
        demandBus := t.rect.demandBus || decide (c = .busFault)
        demandBreaker := t.rect.demandBreaker || decide (c = .breakerFail) } }

/-- START_RECTIFIER is judged by the checks in order, and on acceptance starts the rectifier. -/
def Obligations.StartRectifierChecks : Prop :=
  ∀ (p : Port) (s : State),
    let u := s.receiveRequest p [0x21]
    let r := u.rect
    let top := max (u.g .alphaMax) (u.g .alphaMin)
    let hard : Bool := r.cause = some .busFault || r.cause = some .breakerFail || r.cause = some .gateFault || r.cause = some .eoff
    let judged : Reply :=
      if u.authority ≠ p then ⟨u, .notPermitted, []⟩
      else if r.state = .starting ∨ r.state = .running then ⟨u, .ok, []⟩
      else if r.state = .shifting ∨ r.state = .gateTest then ⟨u, .busy, []⟩
      else if u.startHold then ⟨u, .hold, []⟩
      else if r.state = .blocked ∧ hard = true then ⟨u, .lockedOut, []⟩
      else if u.inputs.eoff then ⟨u, .eoff, []⟩
      else if u.inputs.acClosed = false then ⟨u, .acOpen, []⟩
      else if u.tracker.state ≠ .locked then ⟨u, .noSync, []⟩
      else if r.state = .blocked ∧ r.cause = some .blind ∧ u.sample.state = .blind then ⟨u, .state, []⟩
      else if u.g .gateTestRequired ≠ 0 ∧ r.test.result ≠ .clean then ⟨u, .state, []⟩
      else
        ⟨({ u with
            rect := { r with
              state := .starting, cause := none, alpha := top, sumV := 0, countV := 0, sumI := 0, countI := 0
              gates := Vector.ofFn fun k => { r.gates[k] with miss := 0 }, shiftCount := 0, restart := none } } :
            State).append .rectState .none (.rect .starting .none) top, .accepted, []⟩
    exec (.startRectifier p) s = .next (judged.respond p [0x21])

/-- STOP_RECTIFIER and RESET_LOCKOUT of the rectifier act by the rectifier state. -/
def Obligations.StopAndResetRectifier : Prop :=
  ∀ (p : Port) (s : State),
    let hard (x : Option RectCause) : Bool :=
      x = some .busFault || x = some .breakerFail || x = some .gateFault || x = some .eoff
    let u := s.receiveRequest p [0x31]
    let stopEnd (v : State) : State := v.enterStopped (.cause .stop)
    let stop : Reply :=
      match u.rect.state with
      | .stopped => ⟨u, .ok, []⟩
      | .starting => ⟨if u.tracker.state = .unsync then stopEnd u else u.beginShift .stopped none, .accepted, []⟩
      | .running => ⟨if u.tracker.state = .unsync then stopEnd u else u.beginShift .stopped none, .accepted, []⟩
      | .shifting =>
        match u.rect.shiftEnd with
        | some (.blocked c) =>
          if hard (some c) then ⟨u, .ok, []⟩
          else
            ⟨({ u with rect := { u.rect with shiftEnd := some .stopped } } : State).append .rectState .none
              (.rect .shifting (.cause .stop)) u.rect.alpha, .accepted, []⟩
        | some .stopped => ⟨u, .ok, []⟩
        | none => ⟨u, .ok, []⟩
      | .blocked => if hard u.rect.cause then ⟨u, .ok, []⟩ else ⟨stopEnd u, .accepted, []⟩
      | .gateTest => ⟨stopEnd u.abortGateTest, .accepted, []⟩
    let w := s.receiveRequest p [0x22, 0]
    let reset : Reply :=
      if w.authority ≠ p then ⟨w, .notPermitted, []⟩
      else if ¬ (w.rect.state = .blocked ∧ hard w.rect.cause = true) then ⟨w, .state, []⟩
      else if w.rect.cause = some .eoff ∧ w.inputs.eoff = true then ⟨w, .eoff, []⟩
      else
        ⟨({ w with rect := { w.rect with demandBus := false, demandBreaker := false } } : State).enterStopped .none,
          .accepted, []⟩
    exec (.stopRectifier p) s = .next (stop.respond p [0x31]) ∧
    exec (.resetLockoutRectifier p) s = .next (reset.respond p [0x22, 0])

/-- The AC breaker's changes and emergency-off act on the rectifier, the feeders and the condition. What it says
beyond the spec is the model's own, by log 5, 11, 12, 34, 35. -/
def Obligations.AcBreakerAndEmergencyOff : Prop :=
  ∀ s : State,
    let hard (x : Option RectCause) : Bool :=
      x = some .busFault || x = some .breakerFail || x = some .gateFault || x = some .eoff
    let ac (b : Bool) : State := { s with inputs := { s.inputs with acClosed := b } }
    let eoff (b : Bool) : State := { s with inputs := { s.inputs with eoff := b } }
    let open' := (ac false).enterStopped (.cause .acOpen)
    exec .acBreakerOpen s = .next (
      if s.inputs.acClosed = false then s
      else
        match s.rect.state with
        | .starting => open'
        | .running => open'
        | .shifting =>
          match s.rect.shiftEnd with
          | some (.blocked c) => if hard (some c) then (ac false).enterBlocked c none else open'
          | some .stopped => open'
          | none => open'
        | .blocked => if hard s.rect.cause then ac false else open'
        | .stopped => ac false
        | .gateTest => ac false) ∧
    exec .acBreakerClosed s = .next (
      if s.inputs.acClosed then s
      else if s.rect.state = .gateTest then (ac true).abortGateTest.enterStopped .none
      else ac true) ∧
    exec .eoffAsserted s = .next (
      if s.inputs.eoff then s
      else
        let r :=
          match s.rect.state with
          | .starting => (eoff true).enterBlocked .eoff none
          | .running => (eoff true).enterBlocked .eoff none
          | .shifting => (eoff true).enterBlocked .eoff none
          | .blocked =>
            if hard s.rect.cause then eoff true
            else
              ({ eoff true with rect := { s.rect with cause := some .eoff, restart := none } } : State).append .rectState
                .none (.rect .blocked (.cause .eoff)) s.rect.alpha
          | .gateTest => (eoff true).abortGateTest.enterStopped (.cause .eoff)
          | .stopped => eoff true
        ((([0, 1, 2, 3, 4, 5] : List Feeder).foldl State.eoffFeeder (r.absorberEdge s)).onset .eoffActive).settle) ∧
    exec .eoffReleased s = .next (
      if s.inputs.eoff then (eoff false).absorberEdge s else s)

/-- A gate test is checked, steps through its gates, is judged step by step, and ends or is aborted. What it says
beyond the spec is the model's own, by log 2. -/
def Obligations.GateTestRuns : Prop :=
  ∀ (p : Port) (repeats skip : Byte) (s : State),
    let begin' (t : State) : State :=
      let k : Gate := ⟨t.rect.test.steps % 12, by omega⟩
      { t with
        rect := { t.rect with
          test := { t.rect.test with
            stepTimer := some 10000, driveTimer := some 5000, feedback := Vector.replicate 12 false }
          gates := t.rect.gates.set k
            { t.rect.gates[k] with driven := decide (t.rect.test.skip ≠ k.val + 1), endAt := none } } }
    let u := s.receiveRequest p [0x24, repeats, skip]
    let judged : Reply :=
      if u.authority ≠ p then ⟨u, .notPermitted, []⟩
      else if repeats.toNat < 1 ∨ 16 < repeats.toNat ∨ 12 < skip.toNat then ⟨u, .badArgument, []⟩
      else if u.rect.state ≠ .stopped then ⟨u, .state, []⟩
      else if u.inputs.acClosed then ⟨u, .acOpen, []⟩
      else if u.inputs.eoff then ⟨u, .eoff, []⟩
      else
        ⟨begin' (({ u with
            rect := { u.rect with
              state := .gateTest
              test := { u.rect.test with
                result := .running, repeats := repeats.toNat, skip := skip.toNat, steps := 0
                errors := Vector.replicate 12 0 } } } : State).append .rectState .none (.rect .gateTest .none) u.rect.alpha),
          .accepted, []⟩
    let x := s.rect.test
    let own : Gate := ⟨x.steps % 12, by omega⟩
    let free : Vector GateUnit 12 := s.rect.gates.set own { s.rect.gates[own] with driven := false }
    let errors : Vector Nat 12 := Vector.ofFn fun k =>
      if (k = own ∧ x.feedback[k] = false) ∨ (k ≠ own ∧ x.feedback[k] = true) then satInc 255 x.errors[k] else x.errors[k]
    let stepped : State := { s with
      rect := { s.rect with
        gates := free
        test := { x with stepTimer := none, driveTimer := none, steps := x.steps + 1, errors := errors } } }
    let verdict : GateTestResult := if errors.toList.sum = 0 then .clean else .failed
    exec (.gateTest p repeats skip) s = .next (judged.respond p [0x24, repeats, skip]) ∧
    exec .gateTestDriveEnd s = .next (
      if x.driveTimer ≠ some 0 then s
      else
        { s with
          rect := { s.rect with
            test := { x with driveTimer := none }, gates := if s.rect.state = .gateTest then free else s.rect.gates } }) ∧
    exec .gateTestStepEnd s = .next (
      if x.stepTimer ≠ some 0 then s
      else if s.rect.state ≠ .gateTest then { s with rect := { s.rect with test := { x with stepTimer := none } } }
      else if x.steps + 1 < x.repeats * 12 then begin' stepped
      else
        (({ stepped with rect := { stepped.rect with test := { stepped.rect.test with result := verdict } } } :
          State).append .gateTest .none (.gateTest verdict) errors.toList.sum).enterStopped .none) ∧
    s.abortGateTest =
      ({ s with
        rect := { s.rect with
          schedule := [], gates := Vector.ofFn fun k => { s.rect.gates[k] with driven := false, endAt := none }
          test := { x with result := .aborted, stepTimer := none, driveTimer := none } } } : State).append .gateTest .none
        (.gateTest .aborted) 0

/-- The AC trip, absorber, coil and contactor outputs follow the state. -/
def Obligations.OutputsFollowTheState : Prop :=
  ∀ s : State,
    (s.acTrip = true ↔ s.inputs.eoff = true ∨ s.rect.demandBus = true ∨ s.rect.demandBreaker = true) ∧
    (s.absorberOut = true ↔
      s.rect.absDemand = true ∧ s.sample.state ≠ .blind ∧ s.inputs.eoff = false ∧ s.rect.hot = false) ∧
    (∀ f : Feeder,
      (s.closeCoil f = true ↔ s.ctx[f].state = .closing) ∧
      (s.tripCoil f = true ↔ s.ctx[f].state = .tripping ∨ s.ctx[f].state = .stuck) ∧
      (s.contactor f = true ↔ s.lineTest.tested = some f))

/-- The bus differential counts sets whose difference is large, and a declared fault acts by its setting. What it says
beyond the spec is the model's own, by log 12, 31. -/
def Obligations.BusDifferentialActs : Prop :=
  ∀ s : State,
    let r := s.rect
    let at' (k : ChannelNo) : Int := (s.sample.channels[k].latest).getD 0
    let valid := (List.range 6 ++ [13, 14, 15]).all fun k =>
      match s.sample.channels[k]? with
      | some x => x.latest.isSome && decide (x.invalidRun = 0)
      | none => false
    let d := at' 13 + at' 14 - (at' 0 + at' 1 + at' 2 + at' 3 + at' 4 + at' 5) - at' 15
    let with' (n : Nat) : State := { s with rect := { r with diffRun := n } }
    s.busStep =
      if s.g .busDiffAction ≠ 0 ∧ s.g .busDiffAction ≠ 1 then with' 0
      else if valid = false then s
      else if (d.natAbs : Int) < s.g .busDiffLevel then { s with rect := { r with diffRun := 0, alarmStanding := false } }
      else if ((r.diffRun + 1 : Nat) : Int) < s.g .busDiffCount then with' (r.diffRun + 1)
      else if s.g .busDiffAction = 0 then
        if r.demandBus then with' 0
        else
          (([0, 1, 2, 3, 4, 5] : List Feeder).foldl (fun t f => t.tripRequest f .busFault (.locked .busFault) 0 0)
            ((with' 0).blockRequest .busFault none)).append .busFault .none .busTrip d
      else if r.alarmStanding then with' 0
      else
        let t := (with' 0).append .busFault .none .busAlarm d
        { t with rect := { t.rect with alarmStanding := true } }

/-- A delivered set updates the absorber's heating, demand and hot flag, with their entries. What it says beyond the
spec is the model's own, by log 12, 30. -/
def Obligations.AbsorberIsUpdated : Prop :=
  ∀ s : State,
    let r := s.rect
    let q := max 0 (min ((s.held chAbs).getD 0) 16000)
    let fa := r.fa + (q * q / 1024 * 65536 - r.fa) / ((2 : Int) ^ (s.g .absShift).toNat)
    let demand := match s.held chBus with
      | none => r.absDemand
      | some v => if s.g .absOn ≤ v then true else if v ≤ min (s.g .absOff) (s.g .absOn - 5) then false else r.absDemand
    let hot := if s.g .absHot ≤ fa / 65536 then true else if fa / 65536 ≤ s.g .absHot / 2 then false else r.hot
    let t : State := { s with rect := { r with fa := fa, absDemand := demand, hot := hot } }
    let edge := if t.absorberOut = s.absorberOut then t
      else t.append .absorber .none (if t.absorberOut then .absorberOn else .absorberOff) ((s.held chBus).getD 0)
    s.absorber =
      if hot = r.hot then edge
      else if hot then (edge.append .absorber .none .absorberHot (fa / 65536)).onset .absorberHot
      else edge.append .absorber .none .absorberCool (fa / 65536)

/-! ## Discrimination, sequencing and line tests (04 to 06) -/

/-- The instantaneous and the rate-of-rise test of a feeder count, alarm, call for a trip and keep episodes. -/
def Obligations.InstantaneousAndRiseTests : Prop :=
  ∀ (e : Evaluation) (st : Settings) (f : Feeder) (x : Seen),
    let inst := st.f f .instAction
    let i := x.held.getD 0
    let d : Disc :=
      if (inst = 0 ∨ inst = 1) ∧ x.closed = true ∧ x.held.any (fun v => decide (st.f f .instLevel ≤ v)) = true then
        { e.disc with instRun := satInc 255 e.disc.instRun }
      else { e.disc with instRun := 0, instAlarm := false }
    let ror := st.f f .rorAction
    let cancelled : Evaluation :=
      match e.disc.episode with
      | none => e
      | some _ => { e with disc := { e.disc with episode := none, cancelled := satInc 65535 e.disc.cancelled } }
    let ended (p : Episode) : Evaluation :=
      { e with
        disc := { e.disc with
          episode := none, ended := satInc 65535 e.disc.ended, largest := max e.disc.largest p.rise } }
    let sample (p : Episode) : Evaluation :=
      if st.f f .rorDelta ≤ p.rise ∧ st.f f .rorMinLen ≤ p.length then
        let o : Disc := { e.disc with episode := none, rorOps := satInc 65535 e.disc.rorOps }
        if ror = 0 then { e with disc := o, ror := some p.rise }
        else { e with disc := o, entries := e.entries ++ [(.alarm, .alarmRor, p.rise)] }
      else if max (st.f f .rorMaxLen) (st.f f .rorMinLen) ≤ p.length then ended p
      else { e with disc := { e.disc with episode := some p } }
    e.instTest st f x = (
      if (d.instRun : Int) < st.f f .instCount then { e with disc := d }
      else if inst = 0 then { e with disc := { d with instOps := satInc 65535 d.instOps }, inst := some i }
      else if inst = 1 ∧ d.instAlarm = false then
        { e with
          disc := { d with instAlarm := true, instOps := satInc 65535 d.instOps }
          entries := e.entries ++ [(.alarm, .alarmInst, i)] }
      else { e with disc := d }) ∧
    e.rorTest st f x = (
      match e.disc.prev, x.held with
      | some prev, some v =>
        if ¬ ((ror = 0 ∨ ror = 1) ∧ x.closed = true) then cancelled
        else
          match e.disc.episode with
          | none => if e.disc.blank = 0 ∧ st.f f .rorStart ≤ v - prev then sample ⟨prev, 1, v - prev⟩ else e
          | some p =>
            if min (st.f f .rorCont) (st.f f .rorStart) ≤ v - prev then sample ⟨p.base, p.length + 1, v - p.base⟩
            else ended p
      | some _, none => cancelled
      | none, _ => cancelled)

/-- The thermal test moves the fine value, warns, alarms or calls for a trip. -/
def Obligations.ThermalTestActs : Prop :=
  ∀ (e : Evaluation) (st : Settings) (f : Feeder) (x : Seen),
    let act := st.f f .thermalAction
    let q : Int := min ((x.held.getD 0).natAbs : Int) 16000
    let fine := e.disc.fine + (q * q / 1024 * 65536 - e.disc.fine) / ((2 : Int) ^ (st.f f .thermalShift).toNat)
    let theta := fine / 65536
    let on := act = 0 ∨ act = 1
    let hot := on ∧ st.f f .thermalWarn ≤ theta
    let warned : Evaluation := { e with
      disc := { e.disc with fine := fine, warn := decide hot }
      entries := if hot ∧ e.disc.warn = false then e.entries ++ [(.thermalWarn, .none, theta)] else e.entries }
    let h := { e with disc := e.disc.heat st f x }
    (h.warnTest st f).tripLevel st f x = (
      if st.f f .thermalTrip ≤ theta then
        if act = 0 ∧ x.closed = true then
          { warned with
            disc := { warned.disc with thermalOps := satInc 65535 e.disc.thermalOps }, thermal := some theta }
        else if act = 1 ∧ e.disc.thermalAlarm = false then
          { warned with
            disc := { warned.disc with thermalAlarm := true, thermalOps := satInc 65535 e.disc.thermalOps }
            entries := warned.entries ++ [(.alarm, .alarmThermal, theta)] }
        else warned
      else warned) ∧
    (∀ d : Disc, d.clearAlarm st f =
      if ¬ on ∨ d.fine / 65536 ≤ min (st.f f .thermalReset) (st.f f .thermalTrip) then { d with thermalAlarm := false }
      else d)

/-- The evaluation of a feeder on a delivered set runs its steps in order and hands on at most one trip. What it says
beyond the spec is the model's own, by log 10, 12. -/
def Obligations.FeederEvaluationRunsInOrder : Prop :=
  ∀ (s u : State) (f : Feeder) (mark : Bool) (r : TripCall),
    let d := s.disc[f]
    let held := (s.sample.channels[chI f]).latest
    let x : Seen := ⟨held, s.sample.failed[f], mark,
      decide (s.ctx[f].state = .closed) && !s.sample.failed[f] && held.isSome⟩
    let marked : Disc :=
      if mark then
        { d with
          episode := none, cancelled := if d.episode.isSome then satInc 65535 d.cancelled else d.cancelled
          prev := none, instRun := 0, instAlarm := false }
      else d
    let e := ((⟨marked, [], none, none, none⟩ : Evaluation).instTest s.settings f x).rorTest s.settings f x
    let e := ({ e with disc := e.disc.heat s.settings f x }.warnTest s.settings f).tripLevel s.settings f x
    let out := e.disc.clearAlarm s.settings f
    let t : State := { s with
      disc := s.disc.set f { out with blank := out.blank - 1, prev := if s.sample.failed[f] then none else held } }
    let t := e.entries.foldl (fun u y => u.append y.1 (.feeder f) y.2.1 y.2.2) t
    let t : State :=
      if out.fine / 65536 ≤ min (s.settings.f f .thermalReset) (s.settings.f f .thermalTrip) then t.coolNotice f else t
    let called (cause : TripCause) (v : Int) : State := { t with
      trips := { t.trips with
        calls := t.trips.calls ++ [⟨f, cause, v, (s.sample.newest.map Delivered.seq).getD 0, d.blank⟩] } }
    s.evaluate f mark = (
      match e.inst, e.ror, e.thermal with
      | some v, _, _ => called .inst v
      | none, some v, _ => called .ror v
      | none, none, some v => called .thermal v
      | none, none, none => t) ∧
    u.takeTrip r = (
      if u.ctx[r.feeder].state = .closed then u.protectionTrip r.feeder r.cause r.value r.trigger r.blank else u)

/-- A trip request is taken in CLOSED only; an accepted trip is recorded, journaled and intertripped in order. What it
says beyond the spec is the model's own, by log 18. -/
def Obligations.TripTakesEffect : Prop :=
  ∀ (s : State) (f : Feeder) (cause : TripCause) (disp : Disposition) (value : Int) (trigger : Byte) (blank : Nat),
    let c := s.ctx[f]
    let sec := s.sections[f]
    let shut := s.inputs.breaker[f]
    let commanded := cause = .command ∨ cause = .blockOpen ∨ cause = .earth ∨ cause = .interlock
    let recorded := cause = .inst ∨ cause = .ror ∨ cause = .selfTrip ∨ cause = .intertripRx
    let tripping : State := { s with
      ctx := s.ctx.set f { c with
        state := .tripping, lastTrip := some cause, disp := some disp, closeTimer := none, reclaimTimer := none
        tripTimer := if shut then some ((s.g .tripTimeMax).toNat * 10000) else none
        followTimer := if disp = .follow then some ((s.settings.f f .followWait).toNat * 10000000) else none } }
    let entered : State :=
      if commanded then tripping
      else if recorded then
        (tripping.requestSlot f cause trigger).2.appendRef .trip (.feeder f) (.tripCause cause) value
          (tripping.requestSlot f cause trigger).1
      else tripping.append .trip (.feeder f) (.tripCause cause) value
    let sent : State :=
      if (cause = .inst ∨ cause = .ror ∨ cause = .selfTrip) ∧ sec.coord = .coordinated then entered.sendTripReq f
      else entered
    let chosen : Disposition :=
      if 0 < blank then .locked .sotf
      else if sec.coord = .mismatch then .locked .mismatch
      else if s.settings.f f .recloseMax = 0 then .opened
      else if cause = .thermal then .thermalWait
      else if sec.coord = .coordinated ∧ sec.mapping.any (fun m => decide (m.role = .follow)) = true then .follow
      else if (c.count : Int) < s.settings.f f .recloseMax then .reclose
      else .locked .recloseExhausted
    s.trip f cause disp value trigger = (if shut then sent else sent.completeTrip f) ∧
    s.tripRequest f cause disp value trigger =
      (if c.state = .closed then s.trip f cause disp value trigger else s) ∧
    s.protectionTrip f cause value trigger blank = s.tripRequest f cause chosen value trigger

/-- A completed trip is journaled and its disposition acts, replaced by OPEN where the section is barred. What it says
beyond the spec is the model's own, by log 27. -/
def Obligations.DispositionActsWhenOpen : Prop :=
  ∀ (s : State) (f : Feeder) (d : Disposition),
    let c := s.ctx[f]
    let sec := s.sections[f]
    let bar := s.inputs.earth[f] || !sec.blocks.isEmpty || !sec.peers.isEmpty || sec.overflow
    let put (x : Context) : State := { s with ctx := s.ctx.set f x }
    let ms (n : Nat) : Nat :=
      (s.settings.f f (if n ≤ 1 then .deadTime1 else if n = 2 then .deadTime2 else .deadTime3)).toNat * 10000
    let opened : State := put { c with
      state := .opened, disp := none, auto := false, wait := none
      tripTimer := none, closeTimer := none, deadTimer := none, reclaimTimer := none, followTimer := none }
    s.applyDisposition f d = (
      match d with
      | .opened => opened
      | .locked cause => s.enterLocked f cause
      | .reclose =>
        if bar then opened
        else put { c with
          state := .deadTime, disp := none, auto := false, wait := some .timed
          deadTimer := some (ms (c.count + 1)), followTimer := none, count := c.count + 1 }
      | .thermalWait =>
        if bar then opened
        else put { c with
          state := .deadTime, disp := none, auto := false, wait := some .thermal, deadTimer := none, followTimer := none }
      | .follow =>
        if bar then opened
        else if sec.coord = .coordinated ∧ sec.mapping.any (fun m => decide (m.role = .follow)) = true then
          put { c with state := .waitPeer, disp := none, auto := false, wait := none, deadTimer := none }
        else if sec.coord = .mismatch then s.enterLocked f .mismatch
        else s.enterLocked f .peerLost) ∧
    s.completeTrip f =
      ((put { c with tripTimer := none }).append .opened (.feeder f)
        (match c.lastTrip with
          | some x => .tripCause x
          | none => .none) 0).applyDisposition f (c.disp.getD .opened)

/-- Entry to LOCKED, and a failed attempt, undo what the state held, are journaled, and take their routes. What it
says beyond the spec is the model's own, by log 38. -/
def Obligations.LockoutAndFailedAttempt : Prop :=
  ∀ (s : State) (f : Feeder) (cause : LockCause) (reason : Detail),
    let c := s.ctx[f]
    let sec := s.sections[f]
    let role (r : Role) : Bool := decide (sec.coord = .coordinated) && sec.mapping.any fun m => decide (m.role = r)
    let put (u : State) (x : Context) : State := { u with ctx := u.ctx.set f x }
    let leave (u : State) : State :=
      { u with lineTest := { u.lineTest with queue := u.lineTest.queue.filter fun g => g != f } }
    let abort (u : State) : State :=
      if u.lineTest.tested = some f then
        let t := ({ u with lineTest := { u.lineTest with tested := none, timer := none } } : State).append .lineTest
          (.feeder f) (.line .aborted) 0
        { t with lineTest := { t.lineTest with last := t.lineTest.last.set f ⟨.aborted, c.auto, none, none, 0⟩ } }
      else u
    let locked := (abort (leave (put s { c with
      state := .locked, lock := some cause, disp := none, auto := false, wait := none
      tripTimer := none, closeTimer := none, deadTimer := none, reclaimTimer := none, followTimer := none }))).append
      .lockout (.feeder f) (.lockCause cause) c.count
    let ms (n : Nat) : Nat :=
      (s.settings.f f (if n ≤ 1 then .deadTime1 else if n = 2 then .deadTime2 else .deadTime3)).toNat * 10000
    let counted := (put s { c with count := c.count + 1 }).append .closeFailed (.feeder f) reason ((c.count + 1 : Nat) : Int)
    s.enterLocked f cause =
      (if role .lead && decide (cause ≠ .peerLockout) then locked.askFor f .lockout else locked) ∧
    s.undoReclose f = abort (leave (put s { c with deadTimer := none, followTimer := none, wait := none })) ∧
    s.failedAttempt f reason =
      (if s.settings.f f .recloseMax ≤ (c.count : Int) then
        (s.append .closeFailed (.feeder f) reason c.count).enterLocked f .recloseExhausted
      else if sec.coord = .mismatch then counted.enterLocked f .mismatch
      else if role .follow then
        put counted { c with
          count := c.count + 1, state := .waitPeer, disp := none, auto := false, wait := none
          closeTimer := none, deadTimer := none
          followTimer := some ((s.settings.f f .followWait).toNat * 10000000) }
      else
        put counted { c with
          count := c.count + 1, state := .deadTime, disp := none, auto := false, wait := some .timed
          deadTimer := some (ms (c.count + 1)), closeTimer := none, followTimer := none })

/-- Commanded opens, cancellations, EOFF and lockout demands act by the context state. What it says beyond the spec is
the model's own, by log 19, 38. -/
def Obligations.OpensDemandsAndEoffByState : Prop :=
  ∀ (s : State) (f : Feeder) (cause : TripCause) (lock : LockCause),
    lock = .peerLockout ∨ lock = .peerLost ∨ lock = .mismatch ∨ lock = .intertripUnack →
    let c := s.ctx[f]
    let reclosing := c.state = .deadTime ∨ c.state = .queued ∨ c.state = .testing ∨ c.state = .waitPeer
    let shut := c.state = .closed ∨ c.state = .closing
    let lockedDisp : Bool := match c.disp with
      | some (.locked _) => true
      | _ => false
    let put (x : Context) : State := { s with ctx := s.ctx.set f x }
    let toOpen (d : Detail) : State :=
      let t := put { c with
        state := .opened, disp := none, auto := false, wait := none
        tripTimer := none, closeTimer := none, deadTimer := none, reclaimTimer := none, followTimer := none }
      let t : State := { t with lineTest := { t.lineTest with queue := t.lineTest.queue.filter fun g => g != f } }
      (t.append .opened (.feeder f) d c.count).abortTest f c.auto
    s.commandedOpen f cause =
      (if shut then s.trip f cause .opened 0 0 else if reclosing then toOpen (.tripCause cause) else s) ∧
    s.cancel f = (if reclosing then toOpen .cancelled else s) ∧
    s.barFeeder f cause = (if shut then s.commandedOpen f cause else s.cancel f) ∧
    s.eoffFeeder f =
      (if shut then s.trip f .eoff (.locked .eoff) 0 0
      else if reclosing then s.enterLocked f .eoff
      else if c.state = .tripping then put { c with disp := some (.locked .eoff), followTimer := none }
      else s) ∧
    s.lockoutDemand f lock =
      (if c.state = .waitPeer then s.enterLocked f lock
      else if (lock = .peerLockout ∨ lock = .intertripUnack) ∧ (reclosing ∨ c.state = .opened) then s.enterLocked f lock
      else if lock = .intertripUnack ∧ c.state = .tripping ∧ lockedDisp = false then
        put { c with disp := some (.locked .intertripUnack), followTimer := none }
      else s)

/-- A change of a breaker position completes trips and closes, self-trips, or is an unexpected close. What it says
beyond the spec is the model's own, by log 5, 11, 12, 13, 30, 37, 38. -/
def Obligations.BreakerPositionChangesAct : Prop :=
  ∀ (f : Feeder) (s : State),
    let c := s.ctx[f]
    let sec := s.sections[f]
    let put (u : State) (x : Context) : State := { u with ctx := u.ctx.set f x }
    let shown (b : Bool) : State := { s with inputs := { s.inputs with breaker := s.inputs.breaker.set f b } }
    let last : Detail := match c.lastTrip with
      | some x => .tripCause x
      | none => .none
    let o := shown false
    let opens :=
      match c.state with
      | .tripping => o.completeTrip f
      | .closed =>
        match s.sample.newest with
        | none => o.protectionTrip f .selfTrip 0 0 s.disc[f].blank
        | some n =>
          match n.held[f] with
          | some v => o.protectionTrip f .selfTrip v n.seq s.disc[f].blank
          | none =>
            o.protectionTrip f .selfTrip (Config.unstatedCurrent s.journal.seq).toInt n.seq s.disc[f].blank
      | .stuck => (o.append .opened (.feeder f) last 0).enterLocked f .breakerFail
      | _ => o
    let activated : State := { opens with
      sections := opens.sections.set f { opens.sections[f] with
        blocks := opens.sections[f].blocks.map fun b => { b with active := true } } }
    let blocked := (opens.sections[f].blocks.filter fun b => !b.active).foldl
      (fun u b => u.append .blockPlaced (.sec f) (.blockActivated b.origin) b.tag.toNat) activated
    let k : State := { shown true with
      disc := s.disc.set f { s.disc[f] with blank := (s.settings.f f .closeBlank).toNat } }
    let made := put k { c with
      state := .closed, closeTimer := none
      reclaimTimer := if c.auto then some ((s.settings.f f .reclaimTime).toNat * 10000000) else none }
    let lead : Bool := decide (sec.coord = .coordinated) && sec.mapping.any fun m => decide (m.role = .lead)
    let told : State := if c.auto && lead then made.askFor f .restored else made
    let undone := k.undoReclose f
    let bar := s.inputs.earth[f] || !sec.blocks.isEmpty || !sec.peers.isEmpty || sec.overflow || s.inputs.eoff
    let unexpected :=
      if bar then (put undone { undone.ctx[f] with lock := none }).trip f .interlock .opened 0 0
      else (put undone { undone.ctx[f] with state := .closed, lock := none, count := 0, auto := false }).append .closed
        (.feeder f) .closedUnexpected 0
    exec (.breakerPositionOpen f) s = .next (if s.inputs.breaker[f] then blocked.settle else s) ∧
    exec (.breakerPositionClosed f) s = .next (
      if s.inputs.breaker[f] then s
      else
        (if c.state = .closing then
            told.append .closed (.feeder f) (if c.auto then .closedAutomatic else .closedPort) c.count
          else if c.state = .closed ∨ c.state = .tripping ∨ c.state = .stuck then k
          else unexpected).settle)

/-- The timers of a context expire: dead time, close supervision, reclaim, follow wait, trip supervision; a cool
notice ends a THERMAL dead time. What it says beyond the spec is the model's own, by log 2, 11, 12, 14. -/
def Obligations.FeederTimersExpire : Prop :=
  ∀ (f : Feeder) (s : State),
    let c := s.ctx[f]
    let put (x : Context) : State := { s with ctx := s.ctx.set f x }
    let shut (x : Context) : Context := { x with
      state := .opened, disp := none, auto := false, wait := none
      tripTimer := none, closeTimer := none, deadTimer := none, reclaimTimer := none, followTimer := none }
    let dead := put { c with deadTimer := none }
    let queued : State := { dead with
      ctx := dead.ctx.set f { c with state := .queued, auto := true, wait := none, deadTimer := none }
      lineTest := { s.lineTest with queue := s.lineTest.queue ++ [f] } }
    let close := put { c with closeTimer := none }
    let stuck := (put { c with state := .stuck, tripTimer := none, followTimer := none }).blockRequest .breakerFail none
    let backed := (feeders.filter fun g => g != f).foldl
      (fun (u : State) g => if u.ctx[g].state = .closed ∨ u.ctx[g].state = .closing then
        u.trip g .bfBackup (.locked .bfBackup) 0 0 else u) stuck
    let sent := if s.sections[f].coord = .coordinated then backed.sendTripReq f else backed
    exec (.deadTimeExpiry f) s = .next (
      if c.deadTimer ≠ some 0 then s
      else if c.state = .deadTime ∧ c.wait = some .timed then
        (if s.interlock f true = .pass then queued
          else (put (shut c)).append .opened (.feeder f) (.tripCause .interlock) 0).settle
      else dead) ∧
    exec (.closeSupervisionExpiry f) s = .next (
      if c.closeTimer ≠ some 0 then s
      else if c.state = .closing then
        (if c.auto then close.failedAttempt f .failedSupervision
          else (put (shut c)).append .closeFailed (.feeder f) .failedPort 0).settle
      else close) ∧
    exec (.reclaimExpiry f) s = .next (
      if c.reclaimTimer ≠ some 0 then s
      else put { c with reclaimTimer := none, count := if c.state = .closed then 0 else c.count }) ∧
    exec (.followWaitExpiry f) s = .next (
      if c.followTimer ≠ some 0 then s
      else if c.state = .waitPeer then (put { c with followTimer := none }).enterLocked f .peerTimeout
      else put { c with followTimer := none }) ∧
    exec (.tripSupervisionExpiry f) s = .next (
      if c.tripTimer ≠ some 0 then s
      else if c.state = .tripping then
        sent.append .breakerFail (.feeder f)
          (match c.lastTrip with
            | some x => .tripCause x
            | none => .none) (s.g .tripTimeMax)
      else put { c with tripTimer := none }) ∧
    s.coolNotice f = (
      if c.state = .deadTime ∧ c.wait = some .thermal then
        if s.interlock f true = .pass then queued
        else (put (shut c)).append .opened (.feeder f) (.tripCause .interlock) 0
      else s)

/-- CLOSE_FEEDER, OPEN_FEEDER and RESET_LOCKOUT of a feeder are judged by the context state. What it says beyond the
spec is the model's own, by log 11, 27. -/
def Obligations.FeederCommandsAreJudged : Prop :=
  ∀ (p : Port) (n : Byte) (s : State),
    let u := s.receiveRequest p [0x20, n]
    let close : Reply :=
      if u.authority ≠ p then ⟨u, .notPermitted, []⟩
      else
        match feederOf n with
        | none => ⟨u, .badArgument, []⟩
        | some f =>
          let c := u.ctx[f]
          let v := u.interlock f false
          if c.state = .locked then ⟨u, .lockedOut, []⟩
          else if c.state ≠ .opened then ⟨u, .busy, []⟩
          else if v = .earthed then ⟨u, .earthed, []⟩
          else if v = .localBlock ∨ v = .peerBlock then ⟨u, .blocked, []⟩
          else if v = .eoff then ⟨u, .eoff, []⟩
          else if v = .hold then ⟨u, .hold, []⟩
          else if (u.reading (chV f)).any (fun x => decide (u.g .liveLevel ≤ x)) then
            ⟨{ u with
              ctx := u.ctx.set f { c with
                count := 0, auto := false, state := .closing, wait := none, followTimer := none
                closeTimer := some ((u.g .closeTimeMax).toNat * 10000) } }, .accepted, []⟩
          else
            ⟨{ u with
              ctx := u.ctx.set f { c with count := 0, auto := false, state := .queued, wait := none, deadTimer := none }
              lineTest := { u.lineTest with queue := u.lineTest.queue ++ [f] } }, .accepted, []⟩
    let v := s.receiveRequest p [0x30, n]
    let open' : Reply :=
      match feederOf n with
      | none => ⟨v, .badArgument, []⟩
      | some f =>
        if v.ctx[f].state = .opened ∨ v.ctx[f].state = .locked ∨ v.ctx[f].state = .tripping ∨ v.ctx[f].state = .stuck then
          ⟨v, .ok, []⟩
        else ⟨v.commandedOpen f .command, .accepted, []⟩
    let w := s.receiveRequest p [0x22, n]
    let reset : Reply :=
      if w.authority ≠ p then ⟨w, .notPermitted, []⟩
      else if n = 0 then w.resetRectifier
      else
        match feederOf n with
        | none => ⟨w, .badArgument, []⟩
        | some f =>
          let c := w.ctx[f]
          if c.state ≠ .locked then ⟨w, .state, []⟩
          else if c.lock = some .eoff ∧ w.inputs.eoff = true then ⟨w, .eoff, []⟩
          else
            ⟨({ w with ctx := w.ctx.set f { c with state := .opened, lock := none, count := 0 } } : State).append
              .lockoutReset (.feeder f)
              (match c.lock with
                | some x => .lockCause x
                | none => .none) 0, .accepted, []⟩
    exec (.closeFeeder p n) s = .next (close.respond p [0x20, n]).settle ∧
    exec (.openFeeder p n) s = .next (open'.respond p [0x30, n]).settle ∧
    exec (.resetLockoutFeeder p n) s = .next (reset.respond p [0x22, n])

/-- A head taken from the queue meets its checks, and an expired line test is judged and reported. What it says beyond
the spec is the model's own, by log 2, 11. -/
def Obligations.LineTestsAreJudged : Prop :=
  ∀ (s : State) (f : Feeder),
    let c := s.ctx[f]
    let put (u : State) (x : Context) : State := { u with ctx := u.ctx.set f x }
    let shut (x : Context) : Context := { x with
      state := .opened, disp := none, auto := false, wait := none
      tripTimer := none, closeTimer := none, deadTimer := none, reclaimTimer := none, followTimer := none }
    let report (u : State) (r : LineResult) (b v : Option Int) (n : Int) : State :=
      let t := u.append .lineTest (.feeder f) (.line r) n
      { t with lineTest := { t.lineTest with last := t.lineTest.last.set f ⟨r, c.auto, b, v, n⟩ } }
    let fails (u : State) : State := if c.auto then u.failedAttempt f .failedLineTest else put u (shut c)
    let closes (u : State) : State := put u { c with
      state := .closing, wait := none, followTimer := none, closeTimer := some ((s.g .closeTimeMax).toNat * 10000) }
    let noClose (u : State) : State := (put u (shut c)).append .opened (.feeder f) (.tripCause .interlock) 0
    let b := s.reading chBus
    let v := s.reading (chV f)
    let idle : State := { s with lineTest := { s.lineTest with tested := none, timer := none } }
    let ohms (x y : Int) : Int := if x ≤ y then 100000 else min 100000 (y * s.g .ltResistor / (x - y))
    let ended : State :=
      match b, v with
      | some x, some y =>
        if s.sample.state = .blind then fails (report idle .invalid b v 0)
        else if s.g .ltMinResistance * x ≤ y * (s.g .ltResistor + s.g .ltMinResistance) then
          let t := report idle .pass b v (ohms x y)
          if s.interlock f c.auto = .pass then closes t else noClose t
        else fails (report idle .lowResistance b v (ohms x y))
      | some _, none => fails (report idle .invalid b v 0)
      | none, _ => fails (report idle .invalid b v 0)
    s.takeHead f = (
      if s.interlock f c.auto ≠ .pass then noClose s
      else if c.auto = true ∧ s.sections[f].coord = .coordinated ∧ s.sections[f].summary.any PeerEnd.closed = true then
        fails (report s .peerClosed none none 0)
      else if b = none ∨ b.getD 0 < s.g .ltSupplyMin then fails (report s .noSupply b v (b.getD 0))
      else if s.sample.state = .live ∧ v ≠ none ∧ s.g .liveLevel ≤ v.getD 0 then closes (report s .live b v (v.getD 0))
      else
        let t := put s { c with state := .testing }
        { t with
          lineTest := { t.lineTest with tested := some f, timer := some ((s.g .ltTime).toNat * 10000) } }) ∧
    (s.lineTest.tested = some f → exec .lineTestExpiry s = .next (if s.lineTest.timer = some 0 then ended.settle else s)) ∧
    (s.lineTest.tested = none → exec .lineTestExpiry s = .next (
      if s.lineTest.timer = some 0 then { s with lineTest := { s.lineTest with timer := none } } else s)) ∧
    (s.lineTest.tested.isSome = true → s.settle = s) ∧
    (s.lineTest.tested = none → ∀ g rest, s.lineTest.queue = g :: rest →
      s.settle = (({ s with lineTest := { s.lineTest with queue := rest } } : State).takeHead g).takeHeads rest.length)

/-! ## Sections and links (07, 08) -/

/-- PLACE_BLOCK and REMOVE_BLOCK are judged, act on the feeder and the list, and announce the change. What it says
beyond the spec is the model's own, by log 11. -/
def Obligations.BlocksArePlacedAndRemoved : Prop :=
  ∀ (p : Port) (n : Byte) (tag : Tag) (first : Byte) (s : State),
    let place := [0x32, n, tag.extractLsb' 8 8, tag.extractLsb' 0 8, first]
    let remove := [0x33, n, tag.extractLsb' 8 8, tag.extractLsb' 0 8]
    let notices (before after : State) (f : Feeder) : State :=
      if after.sections[f].coord = .coordinated then
        let joined := (after.announced f).filter fun x => !(before.announced f).contains x
        let left := (before.announced f).filter fun x => !(after.announced f).contains x
        left.foldl (fun t x => t.askFor f fun i => .blockDel i x)
          (joined.foldl (fun t x => t.askFor f fun i => .blockAdd i x) after)
      else after
    let own (x : Section) : Bool := x.blocks.any fun b => decide (b.origin = p ∧ b.tag = tag)
    let u := s.receiveRequest p place
    let placed : Reply :=
      match feederOf n with
      | none => ⟨u, .badArgument, []⟩
      | some f =>
        let st := u.ctx[f].state
        if tag = 0 ∨ (first ≠ 0 ∧ first ≠ 1) then ⟨u, .badArgument, []⟩
        else if own u.sections[f] = true then ⟨u, .duplicate, []⟩
        else if 4 ≤ u.sections[f].blocks.length then ⟨u, .full, []⟩
        else if (st = .closed ∨ st = .closing) ∧ first = 0 then ⟨u, .live, []⟩
        else
          let waits := decide (st = .closed ∨ st = .tripping ∨ st = .stuck)
          let t := if st = .closed ∨ st = .closing then u.commandedOpen f .blockOpen else u.cancel f
          let listed : State := { t with
            sections := t.sections.set f { t.sections[f] with blocks := t.sections[f].blocks ++ [⟨p, tag, !waits⟩] } }
          ⟨notices t (listed.append .blockPlaced (.sec f) (.blockPlaced p (!waits)) tag.toNat) f, .accepted,
            [if waits then 1 else 0]⟩
    let v := s.receiveRequest p remove
    let removed : Reply :=
      match feederOf n with
      | none => ⟨v, .badArgument, []⟩
      | some f =>
        if tag = 0 then ⟨v, .badArgument, []⟩
        else if own v.sections[f] = true then
          let cut : State := { v with
            sections := v.sections.set f { v.sections[f] with
              blocks := v.sections[f].blocks.filter fun b => !decide (b.origin = p ∧ b.tag = tag) } }
          ⟨notices v (cut.append .blockRemoved (.sec f) (.blockRemoved p) tag.toNat) f, .accepted, []⟩
        else ⟨v, .notFound, []⟩
    exec (.placeBlock p n tag first) s = .next (placed.respond p place).settle ∧
    exec (.removeBlock p n tag) s = .next (removed.respond p remove) ∧
    ∀ f : Feeder, (s.announced f).Pairwise (fun x y => x.toNat < y.toNat) ∧
      ∀ x : Tag, x ∈ s.announced f ↔
        (x = 0 ∧ s.inputs.earth[f] = true) ∨ s.sections[f].blocks.any (fun b => decide (b.tag = x)) = true

/-- Earth switches, the selector and RELEASE_HOLD act; the close interlock names the first item that fails. What it
says beyond the spec is the model's own, by log 5, 11, 38. -/
def Obligations.EarthSelectorHoldAndInterlock : Prop :=
  ∀ (f : Feeder) (p : Port) (pos : Selector) (auto : Bool) (s : State),
    let shown (b : Bool) : State := { s with inputs := { s.inputs with earth := s.inputs.earth.set f b } }
    let c := s.ctx[f].state
    let opened :=
      if c = .closed ∨ c = .closing then (shown true).commandedOpen f .earth else (shown true).cancel f
    let selected : State := { s with inputs := { s.inputs with selector := pos } }
    let u := s.receiveRequest p [0x23]
    let holder (t : State) : Port := if t.inputs.selector = .localPos then .s else .c
    let released : Reply :=
      if holder u ≠ p then ⟨u, .notPermitted, []⟩
      else if u.startHold then
        ⟨(({ u with startHold := false } : State).append .holdReleased (.port p) .none 0).tryRestart, .accepted, []⟩
      else ⟨u, .ok, []⟩
    let x := s.sections[f]
    exec (.earthSwitchClosed f) s = .next (
      if s.inputs.earth[f] then s else ((opened.append .earthed (.sec f) .none 0).announce s f).settle) ∧
    exec (.earthSwitchOpened f) s = .next (
      if s.inputs.earth[f] then ((shown false).append .unearthed (.sec f) .none 0).announce s f else s) ∧
    exec (.selectorChange pos) s = .next (
      if s.inputs.selector = pos then s
      else selected.append .authority (.port (if pos = .localPos then .s else .c)) (.selector pos) 0) ∧
    exec (.releaseHold p) s = .next (released.respond p [0x23]) ∧
    s.interlock f auto = (
      if s.inputs.earth[f] then .earthed
      else if x.blocks ≠ [] then .localBlock
      else if x.peers ≠ [] ∨ x.overflow = true then .peerBlock
      else if s.inputs.eoff then .eoff
      else if s.startHold then .hold
      else if auto = true ∧ x.coord = .mismatch then .mismatch
      else .pass)

/-- The section table takes the four peer requests and a new coordination. What it says beyond the spec is the model's
own, by log 15, 38. -/
def Obligations.PeerRequestsAndCoordinationAct : Prop :=
  ∀ (s : State) (f : Feeder) (tag : Tag) (tags : List Tag) (y : Summary) (v : Coordination) (standing : Bool),
    let x := s.sections[f]
    let put (z : Section) : State := { s with sections := s.sections.set f z }
    let bar (t : State) : State :=
      if t.ctx[f].state = .closed ∨ t.ctx[f].state = .closing then t.commandedOpen f .blockOpen else t.cancel f
    let distinct := ascending tags
    let new := distinct.take 4
    let more := decide (4 < distinct.length)
    let listed := put { x with peers := new, overflow := more }
    let acted := if new ≠ [] ∨ more = true then bar listed else listed
    let gone := (x.peers.filter fun t => !new.contains t).foldl
      (fun t z => t.append .blockRemoved (.sec f) .removedPeer z.toNat) acted
    let come := (new.filter fun t => !x.peers.contains t).foldl
      (fun t z => t.append .blockPlaced (.sec f) .placedPeer z.toNat) gone
    let seen : Section := { x with summary := some ⟨y.closed, y.earthed⟩ }
    let kept := put { x with coord := v, summary := if v = .uncoordinated ∨ v = .single then none else x.summary }
    let demanded :=
      match v with
      | .uncoordinated => kept.lockoutDemand f .peerLost
      | .mismatch => kept.lockoutDemand f .mismatch
      | .single => kept
      | .coordinated => kept
    let told := demanded.append .coordination (.sec f) (.coordination v)
      (match x.mapping with
        | some m => m.index.val
        | none => -1)
    s.addPeer f tag = (
      if x.peers.contains tag then bar s
      else if x.peers.length < 4 then
        (bar (put { x with peers := x.peers ++ [tag] })).append .blockPlaced (.sec f) .placedPeer tag.toNat
      else (bar (put { x with overflow := true })).append .blockPlaced (.sec f) .placedPeerOverflow tag.toNat) ∧
    s.delPeer f tag = (
      if x.peers.contains tag then
        (put { x with peers := x.peers.filter fun t => t != tag }).append .blockRemoved (.sec f) .removedPeer tag.toNat
      else s) ∧
    s.replacePeers f tags = (
      if more = true ∧ x.overflow = false then
        come.append .blockPlaced (.sec f) .placedPeerOverflow (distinct.getD 4 0).toNat
      else if more = false ∧ x.overflow = true then come.append .blockRemoved (.sec f) .removedPeerOverflow 0
      else come) ∧
    s.writeSummary f y = (
      if x.overflow = true ∧ y.count + (if y.earthed then 1 else 0) ≤ x.peers.length then
        (put { seen with overflow := false }).append .blockRemoved (.sec f) .removedPeerOverflow 0
      else put seen) ∧
    s.setCoordination f v standing = (
      if x.coord = v then s
      else if standing = true ∧ x.mapping.isSome = true ∧ v ≠ .coordinated then told.onset .uncoordinated
      else told)

/-- A valid STATUS enters CHECKING, enters UP, or is evaluated: summaries, coordination, block sets. What it says
beyond the spec is the model's own, by log 11, 12, 27. -/
def Obligations.StatusIsTakenByLinkState : Prop :=
  ∀ (l : Link) (v : Vector Summary 4) (s : State),
    let k := s.links.get l
    let ticks := (s.g .linkLossTime).toNat * 10000
    let fresh : State := { s with links := s.links.set l { k with loss := if k.loss = none then none else some ticks } }
    let put (t : State) (g : LinkUnit → LinkUnit) : State := { t with links := t.links.set l (g (t.links.get l)) }
    let summaries (t : State) : State := indices.foldl (fun (t : State) (i : Index) =>
      let u := put t fun k => { k with idx := k.idx.set i { k.idx[i] with summary := some v[i] } }
      match u.feederAt l i with
      | some f => u.writeSummary f v[i]
      | none => u) t
    let own (t : State) : List Feeder :=
      feeders.filter fun f => t.sections[f].mapping.any fun m => decide (m.link = l)
    let judge (m : Mapping) : Coordination :=
      if v[m.index].configured = true ∧ v[m.index].role ≠ m.role then .coordinated else .mismatch
    let evaluated (t : State) : State := (own t).foldl (fun (t : State) (f : Feeder) =>
      match t.sections[f].mapping with
      | some m =>
        if m.link = l then
          t.setCoordination f (judge m)
            (feeders.all fun g => t.sections[g].mapping.isNone || decide (t.sections[g].coord = .coordinated))
        else t
      | none => t) t
    let handled (t : State) : State :=
      let a := summaries t
      let b := evaluated a
      ((own b).filter fun (f : Feeder) => decide (b.sections[f].coord = .coordinated ∧ a.sections[f].coord ≠ .coordinated)).foldl
        (fun t f => t.askFor f .blockSet) b
    let up : State := handled (put fresh fun k => { k with state := .up, refresh := some 10000000 })
    exec (.status l v) s = .next (
      if ¬ ∀ i : Index, v[i].count ≤ 4 then put s fun k => { k with badFrames := satInc 65535 k.badFrames }
      else if k.silence ≠ none then put s fun k => { k with ignored := satInc 65535 k.ignored }
      else
        (match k.state with
          | .down =>
            (put fresh fun k => { k with state := .checking, loss := some ticks }).append .linkState (.link l)
              (.linkState .checking) 0
          | .checking =>
            up.append .linkState (.link l) (.linkState (up.links.get l).state)
              ((own up).filter fun (f : Feeder) => decide (up.sections[f].coord = Coordination.coordinated)).length
          | .up => handled fresh).settle)

/-- TRIP_REQ, TRIP_ACK, RESTORED, LOCKOUT and the block frames act, or count as ignored. What it says beyond the spec
is the model's own, by log 11, 27, 32, 38. -/
def Obligations.IntertripAndNoticeFramesAct : Prop :=
  ∀ (l : Link) (i : Index) (id : Byte) (tag : Tag) (tags : List Tag) (s : State),
    let k := s.links.get l
    let put (t : State) (g : LinkUnit → LinkUnit) : State := { t with links := t.links.set l (g (t.links.get l)) }
    let at' (t : State) (g : IndexUnit → IndexUnit) : State := put t fun k => { k with idx := k.idx.set i (g k.idx[i]) }
    let ignored (t : State) : State := put t fun k => { k with ignored := satInc 65535 k.ignored }
    let fresh := put s fun k =>
      { k with loss := if k.loss = none then none else some ((s.g .linkLossTime).toNat * 10000) }
    let take (t : State) : State := if k.silence ≠ none then ignored s else t.settle
    let mapped (act : Feeder → State) : State :=
      match s.feederAt l i with
      | none => ignored fresh
      | some f => act f
    let heard (act : Feeder → State) : State := mapped fun f => if k.state = .down then ignored fresh else act f
    let acked := fresh.ask l (.tripAck i id)
    let kept (f : Feeder) : State := (at' acked fun x => { x with lastRx := some id }).append .intertripRx (.sec f)
      (.linkName l) id.toNat
    let requested (f : Feeder) : State :=
      if k.idx[i].lastRx = some id then acked
      else
        match s.ctx[f].state with
        | .closed =>
          (kept f).protectionTrip f .intertripRx id.toNat ((s.sample.newest.map Delivered.seq).getD 0) s.disc[f].blank
        | .deadTime | .queued | .testing | .waitPeer => ((kept f).undoReclose f).failedAttempt f .failedIntertrip
        | .opened | .locked | .closing | .tripping | .stuck => kept f
    let restored (f : Feeder) : State :=
      let t := fresh.append .peerNotice (.sec f) .noticeRestored 0
      if s.ctx[f].state ≠ .waitPeer then t
      else if s.interlock f true = .pass then
        { t with ctx := t.ctx.set f { s.ctx[f] with
          state := .closing, auto := true, wait := none, followTimer := none
          closeTimer := some ((s.g .closeTimeMax).toNat * 10000) } }
      else
        ({ t with ctx := t.ctx.set f { s.ctx[f] with
          state := .opened, disp := none, auto := false, wait := none
          tripTimer := none, closeTimer := none, deadTimer := none, reclaimTimer := none, followTimer := none } }
          : State).append .opened (.feeder f) (.tripCause .interlock) 0
    exec (.tripReq l i id) s = .next (take (mapped requested)) ∧
    exec (.tripAck l i id) s = .next (take (
      match k.idx[i].out with
      | none => fresh
      | some o =>
        if o.id = id then
          (at' fresh fun x => { x with out := none }).append .peerNotice (.sec o.feeder) .noticeTripAck id.toNat
        else fresh)) ∧
    exec (.restored l i) s = .next (take (heard restored)) ∧
    exec (.lockout l i) s = .next (take (heard fun f =>
      (fresh.append .peerNotice (.sec f) .noticeLockout 0).lockoutDemand f .peerLockout)) ∧
    exec (.blockAdd l i tag) s = .next (take (heard fun f => fresh.addPeer f tag)) ∧
    exec (.blockDel l i tag) s = .next (take (heard fun f => fresh.delPeer f tag)) ∧
    exec (.blockSet l i tags) s = .next (
      if 5 < tags.length then put s fun k => { k with badFrames := satInc 65535 k.badFrames }
      else take (heard fun f => fresh.replacePeers f tags))

/-- BAD_FRAME is judged; frames are asked for in the queue; FRAME_TRANSMIT sends its head, formed then. What it says
beyond the spec is the model's own, by log 23, 24, 27, 36. -/
def Obligations.FramesAreJudgedAskedForAndSent : Prop :=
  ∀ (l : Link) (rx : Reception) (x : Frame) (f : Feeder) (s : State),
    let k := s.links.get l
    let put (t : State) (l : Link) (k : LinkUnit) : State := { t with links := t.links.set l k }
    let again := match x with
      | .status | .blockSet _ => k.queue.contains x
      | .tripReq _ _ | .tripAck _ _ | .restored _ | .lockout _ | .blockAdd _ _ | .blockDel _ _ => false
    let mapped (i : Index) : Option Feeder := s.feederAt l i
    let goes (y : Frame) : Bool := match y with
      | .status | .tripReq _ _ | .tripAck _ _ => true
      | .restored i | .lockout i | .blockAdd i _ | .blockDel i _ | .blockSet i => (mapped i).isSome
    let summary (i : Index) : Summary :=
      match mapped i with
      | none => ⟨false, .lead, false, false, 0⟩
      | some g =>
        ⟨true, (s.sections[g].mapping.map Mapping.role).getD .lead, s.inputs.breaker[g], s.inputs.earth[g],
          s.sections[g].blocks.length⟩
    let formed (y : Frame) : PeerFrame := match y with
      | .status => .status #v[summary 0, summary 1, summary 2, summary 3]
      | .tripReq i id => .tripReq i id
      | .tripAck i id => .tripAck i id
      | .restored i => .restored i
      | .lockout i => .lockout i
      | .blockAdd i t => .blockAdd i t
      | .blockDel i t => .blockDel i t
      | .blockSet i => .blockSet i (((mapped i).map s.announced).getD [])
    exec (.badFrame l rx) s = (
      match judgeFrame rx with
      | none => .next (put s l { k with badFrames := satInc 65535 k.badFrames })
      | some y => exec (y.command l) s) ∧
    s.ask l x = put s l (
      if again then k
      else if k.queue.length < 16 then { k with queue := k.queue ++ [x] }
      else { k with dropped := satInc 65535 k.dropped }) ∧
    s.sendTripReq f = (
      match s.sections[f].mapping with
      | none => s
      | some m =>
        let j := s.links.get m.link
        let id := j.idx[m.index].tripId + 1
        ((put s m.link { j with
          idx := j.idx.set m.index { j.idx[m.index] with tripId := id, out := some ⟨f, id, 1, 200000⟩ } }).ask m.link
          (.tripReq m.index id)).append .intertripSent (.sec f) (.linkName m.link) id.toNat) ∧
    exec (.frameTransmit l) s = .next (
      if k.silence ≠ none then s
      else
        match k.queue.dropWhile fun y => !goes y with
        | [] => put s l { k with queue := [] }
        | y :: rest => put s l { k with queue := rest, sent := encodeFrame (formed y) })

/-- The five timers of a link expire: heartbeat, loss, refresh, retry, and the reset silence. What it says beyond the
spec is the model's own, by log 2, 11, 12, 14, 38. -/
def Obligations.LinkTimersExpire : Prop :=
  ∀ (l : Link) (i : Index) (s : State),
    let k := s.links.get l
    let put (t : State) (g : LinkUnit → LinkUnit) : State := { t with links := t.links.set l (g (t.links.get l)) }
    let own (t : State) : List Feeder :=
      feeders.filter fun f => t.sections[f].mapping.any fun m => decide (m.link = l)
    let cancelled (t : State) (j : Index) (d : Detail) : State :=
      match (t.links.get l).idx[j].out with
      | none => t
      | some o =>
        ((put t fun k => { k with idx := k.idx.set j { k.idx[j] with out := none } }).lockoutDemand o.feeder
          .intertripUnack).append .intertripUnack (.sec o.feeder) d o.id.toNat
    let a := indices.foldl (fun (t : State) (j : Index) => cancelled t j .unackLinkLost)
      (put s fun k => { k with state := .down, loss := none, refresh := none })
    let b := (own a).foldl (fun (t : State) (f : Feeder) => t.setCoordination f .uncoordinated
      (feeders.all fun g => t.sections[g].mapping.isNone || decide (t.sections[g].coord = .coordinated))) a
    let c := put b fun k => { k with
      idx := k.idx.map fun x => { x with lastRx := none, summary := none }
      queue := k.queue.filter fun
        | .tripAck _ _ => true
        | _ => false }
    let d := c.append .linkState (.link l) (.linkState (c.links.get l).state) (s.g .linkLossTime)
    exec (.heartbeatExpiry l) s = .next (
      if k.heartbeat ≠ some 0 then s else (put s fun k => { k with heartbeat := some 100000 }).ask l .status) ∧
    exec (.lossTimerExpiry l) s = .next (
      if k.loss ≠ some 0 then s
      else if k.state = .down then put s fun k => { k with loss := none }
      else
        (if k.state = .up ∧ own d ≠ [] then d.onset (if l = .u then .linkUDown else .linkDDown) else d).settle) ∧
    exec (.refreshExpiry l) s = .next (
      if k.refresh ≠ some 0 then s
      else
        ((own s).filter fun (f : Feeder) => decide (s.sections[f].coord = .coordinated)).foldl (fun t f => t.askFor f .blockSet)
          (put s fun k => { k with refresh := some 10000000 })) ∧
    exec (.retryExpiry l i) s = .next (
      match k.idx[i].out with
      | none => s
      | some o =>
        if o.retry ≠ 0 then s
        else
          (if o.sends < 3 then
            (put s fun k => { k with
              idx := k.idx.set i { k.idx[i] with out := some { o with sends := o.sends + 1, retry := 200000 } } }).ask l
              (.tripReq i o.id)
          else cancelled s i .unackNoAck).settle) ∧
    exec (.resetSilenceEnd l) s = .next (
      if k.silence ≠ some 0 then s
      else (put s fun k => { k with silence := none, heartbeat := some 100000 }).ask l .status)

/-! ## Journal, ports and settings (09 to 11) -/

/-- Appends number, time and overflow; retirement goes oldest first; the journal commands and READ_RECORD. -/
def Obligations.JournalKeepsEntriesForItsReaders : Prop :=
  ∀ (s : State) (k : Kind) (subj : Subject) (d : Detail) (v : Int) (ref : Option (Fin 8)) (p : Port) (mask : Byte)
    (slot first count : Byte),
    let freed (t : State) (r : Option (Fin 8)) : State :=
      match r with
      | some j => { t with slots := t.slots.set j Slot.freed }
      | none => t
    let charged (t : State) (q : Port) (seq : Stamp) : State :=
      let r := t.readers.get q
      if r.cursor = some seq then
        { t with
          readers := t.readers.set q { r with cursor := some (seq + 1), lost := satInc 65535 r.lost }
          ports := t.ports.set q { t.ports.get q with latches := (t.ports.get q).latches ||| 0x0100 } }
      else t
    let given : State :=
      match s.journal.entries with
      | [] => s
      | e :: rest =>
        if s.journal.entries.length < 256 then s
        else
          charged (charged (freed { s with journal := { s.journal with entries := rest } } e.ref) .s e.seq) .c e.seq
    let leaves (e : Entry) : Bool :=
      (s.readers.s.cursor.isSome || s.readers.c.cursor.isSome) && s.readers.s.cursor != some e.seq
        && s.readers.c.cursor != some e.seq && e.ref.all fun j => s.slots[j].state != .filling
    let put (t : State) (r : Reader) : State := { t with readers := t.readers.set p r }
    let oldest (t : State) : Stamp :=
      match t.journal.entries with
      | e :: _ => e.seq
      | [] => t.journal.seq
    let a := s.receiveRequest p [0x10]
    let attached : Reply :=
      let r := a.readers.get p
      if r.cursor ≠ none then ⟨put a { r with cursor := some (oldest a) }, .ok, []⟩
      else ⟨put a { r with cursor := some (oldest a), lost := 0 }, .accepted, []⟩
    let b := s.receiveRequest p [0x11]
    let detached : Reply :=
      if (b.readers.get p).cursor ≠ none then ⟨(put b { b.readers.get p with cursor := none }).retire, .accepted, []⟩
      else ⟨b, .ok, []⟩
    let c := s.receiveRequest p [0x12]
    let fetched : Reply :=
      match (c.readers.get p).cursor with
      | none => ⟨c, .empty, []⟩
      | some at' =>
        match c.journal.entries.dropWhile fun e => e.seq != at' with
        | [] => ⟨c, .empty, []⟩
        | e :: rest =>
          ⟨(put c { c.readers.get p with cursor := some (e.seq + 1) }).retire, .ok, e.bytes ++ bytes16 rest.length⟩
    let m := s.receiveRequest p [0x13, mask]
    let masked : Reply :=
      if mask.toNat < 64 then ⟨put m { m.readers.get p with mask := mask }, .accepted, []⟩ else ⟨m, .badArgument, []⟩
    let u := s.receiveRequest p [0x0B, slot, first, count]
    let recorded : Reply :=
      if h : slot.toNat < 8 then
        let x := u.slots[slot.toNat]
        let seq := ((u.journal.entries.find? fun e => decide (e.ref = some ⟨slot.toNat, h⟩)).map Entry.seq).getD 0
        if count.toNat = 0 ∨ 16 < count.toNat then ⟨u, .badArgument, []⟩
        else if x.state = .free then ⟨u, .state, []⟩
        else if x.pairs.length < first.toNat + count.toNat then ⟨u, .badArgument, []⟩
        else
          ⟨u, .ok,
            [if x.state = .filling then 1 else 2, BitVec.ofNat 8 (x.feeder.val + 1), BitVec.ofNat 8 x.cause.code, x.trigger,
              BitVec.ofNat 8 x.pre, BitVec.ofNat 8 x.post, BitVec.ofNat 8 x.gaps, if x.truncated then 1 else 0]
              ++ bytesStamp seq ++ ((x.pairs.drop first.toNat).take count.toNat).flatMap fun y =>
                bytes16 (y.current.getD (-32768)) ++ bytes16 (y.vBus.getD (-32768))⟩
      else ⟨u, .badArgument, []⟩
    s.appendRef k subj d v ref =
      { given with journal :=
        ⟨given.journal.entries ++ [⟨given.journal.seq, given.time.ms, k, subj, d, v, ref⟩], given.journal.seq + 1⟩ } ∧
    s.retire = (
      match s.journal.entries with
      | [] => s
      | e :: rest =>
        if leaves e then (freed { s with journal := { s.journal with entries := rest } } e.ref).retire else s) ∧
    exec (.attachJournal p) s = .next (attached.respond p [0x10]) ∧
    exec (.detachJournal p) s = .next (detached.respond p [0x11]) ∧
    exec (.fetchEvent p) s = .next (fetched.respond p [0x12]) ∧
    exec (.setAttentionMask p mask) s = .next (masked.respond p [0x13, mask]) ∧
    exec (.readRecord p slot first count) s = .next (recorded.respond p [0x0B, slot, first, count])

/-- A slot request captures the rings around the trigger; a delivered set fills a slot to 192 post pairs. What it says
beyond the spec is the model's own, by log 26. -/
def Obligations.RecorderTakesAndFillsSlots : Prop :=
  ∀ (s : State) (f : Feeder) (cause : TripCause) (trigger : Byte) (k : Fin 8) (row : RingRow),
    let put (t : State) (j : Fin 8) (x : Slot) : State := { t with slots := t.slots.set j x }
    let sealed (t : State) (j : Fin 8) : State := (put t j { t.slots[j] with state := .sealed, truncated := true }).retire
    let all : List (Fin 8) := [0, 1, 2, 3, 4, 5, 6, 7]
    let u : State :=
      match all.find? fun j => decide (s.slots[j].state = .filling ∧ s.slots[j].feeder = f) with
      | some j => sealed s j
      | none => s
    let free (t : State) : Option (Fin 8) := all.find? fun j => decide (t.slots[j].state = .free)
    let pair (r : RingRow) (g : Feeder) : Pair := ⟨r.currents[g], r.vBus⟩
    let newer : List RingRow := u.sample.rings.reverse.takeWhile fun r => decide (r.seq ≠ trigger)
    let upTo : List RingRow := (u.sample.rings.reverse.dropWhile fun r => decide (r.seq ≠ trigger)).reverse
    let slot (st : SlotState) : Slot :=
      ⟨st, f, cause, trigger, upTo.length, newer.length, u.sample.rings.map fun r => pair r f,
        min 255 (u.sample.rings.tail.countP fun r => r.mark), false⟩
    let filled := put s k { s.slots[k] with
      pairs := s.slots[k].pairs ++ [pair row s.slots[k].feeder]
      post := s.slots[k].post + 1
      gaps := if row.mark then satInc 255 s.slots[k].gaps else s.slots[k].gaps }
    s.requestSlot f cause trigger = (
      match free u with
      | none => (none, u.append .recordMissed (.feeder f) (.tripCause cause) trigger.toNat)
      | some j =>
        let t := put u j { u.slots[j] with state := .filling }
        let t := if free t = none then t.onset .poolEmpty else t
        (some j,
          if u.sample.state = .blind ∨ upTo = [] then sealed (put t j ⟨.filling, f, cause, trigger, 0, 0, [], 0, false⟩) j
          else if newer.length < 192 then put t j (slot .filling)
          else (put t j (slot .sealed)).retire)) ∧
    s.fillSlot k row = (
      if s.slots[k].post + 1 < 192 then filled
      else (put filled k { filled.slots[k] with state := .sealed }).retire) ∧
    s.fillSlots row = all.foldl (fun (t : State) (j : Fin 8) =>
      if t.slots[j].state = .filling then t.fillSlot j row else t) s

/-- Select lines, status bytes, requests and responses of a port; UNKNOWN_COMMAND answers and changes nothing. What it
says beyond the spec is the model's own, by log 5, 6, 7, 24. -/
def Obligations.TransactionsAreReceivedAndAnswered : Prop :=
  ∀ (p : Port) (bytes : List Byte) (code : Byte) (s : State) (x : Result),
    let put (t : State) (u : PortUnit) : State := { t with ports := t.ports.set p u }
    let u := s.ports.get p
    let open' := u.phase = .status ∨ u.phase = .request
    let line (low : Bool) : Inputs :=
      if p = .s then { s.inputs with selectS := low } else { s.inputs with selectC := low }
    let isLow := if p = .s then s.inputs.selectS else s.inputs.selectC
    let raised : State := { put s { u with
      phase := .idle, buffer := [], frameError := u.frameError || decide open' } with inputs := line false }
    let lowered (t : State) : State :=
      { put t { t.ports.get p with phase := .status, buffer := [] } with inputs := line true }
    let first (t : State) : State :=
      put t { t.ports.get p with shown := t.statusByte p, frameError := false }
    let attention := u.latches ≠ 0 ∨
      (s.unread p).any (fun e => (s.readers.get p).mask.getLsbD e.kind.eventClass.code) = true
    let cut := bytes.take (requestLength (bytes.headD 0) - 1)
    let begun := put (first (lowered s)) { (first (lowered s)).ports.get p with phase := .request, buffer := cut }
    let r := s.receiveRequest p [code]
    exec (.selectLow p bytes) s = .next (if isLow then s else if cut = [] then lowered s else begun) ∧
    (∀ n : Nat, (begun.ports.get p).clockedOut n = if n = 0 then s.statusByte p else 0) ∧
    (u.phase = .status → u.buffer = [] → ∀ req : List Byte,
      s.receiveRequest p req = put s { u with shown := s.statusByte p, frameError := false }) ∧
    (∀ (req : List Byte) (n : Nat), (((⟨s, x, bytes⟩ : Reply).respond p req).ports.get p).clockedOut n =
      if n = 0 then u.shown else if n < req.length then 0 else (x.code :: bytes).getD (n - req.length) 0) ∧
    exec (.selectRaised p) s = .next (if isLow then raised else s) ∧
    exec (.unknownCommand p code) s = .next (put r { r.ports.get p with
      phase := .response, buffer := [code], response := [4] }) ∧
    s.receiveRequest p bytes = (
      if open' ∧ u.buffer.isPrefixOf bytes = true then (if u.buffer = [] then first s else s)
      else first (lowered raised)) ∧
    (⟨s, x, bytes⟩ : Reply).respond p [code] = put s { u with
      phase := .response, buffer := [code], response := x.code :: bytes } ∧
    s.statusByte p = BitVec.ofNat 8 (
      (if attention then 128 else 0) + (if u.latches ≠ 0 then 64 else 0) + (if u.frameError then 32 else 0)
        + (if (s.inputs.selector = .localPos) = (p = .s) then 16 else 0) + if s.startHold then 8 else 0)

/-- The read commands answer OK with their items and change nothing but the port unit. What it says beyond the spec is
the model's own, by log 8, 9. -/
def Obligations.ReadsAnswerTheirItems : Prop :=
  ∀ (p : Port) (n : Byte) (b : Latch) (s : State),
    let done (req : List Byte) (data : State → Option (List Byte)) : State :=
      let t := s.receiveRequest p req
      { t with ports := t.ports.set p { t.ports.get p with
        phase := .response, buffer := req
        response := match data t with
          | some d => 0 :: d
          | none => [5] } }
    let channel (c : Channel) : List Byte := optional 2 (c.latest.map bytes16) ++ bytes16 c.invalidRun
    let entry (x : LocalBlock) : List Byte :=
      [if x.origin = .s then 0 else 1] ++ bytesTag x.tag ++ [if x.active then 0 else 1]
    let u := s.receiveRequest p [0x02]
    let word := (u.ports.get p).latches
    let left := (exec (.readConditions p) s)
    let num (n : Nat) : Byte := BitVec.ofNat 8 n
    let bit (x : Bool) : Byte := if x then 1 else 0
    let one (x : Option Nat) : List Byte := optional 1 (x.map fun n => [num n])
    let two (x : Option Int) : List Byte := optional 2 (x.map bytes16)
    let ms (x : Option Nat) : List Byte := optional 2 (x.map fun n => bytes16 (msLeft n))
    let sec (x : Option Nat) : List Byte := optional 2 (x.map fun n => bytes16 (secLeft n))
    let disposition (x : Disposition) : List Byte :=
      match x with
      | .opened => [0, 0, 0]
      | .locked y => [1, 1, num (y.code - 1)]
      | .reclose => [2, 0, 0]
      | .follow => [3, 0, 0]
      | .thermalWait => [4, 0, 0]
    let result (x : LineResult) : List Byte :=
      match x with
      | .none => [0, 0, 0]
      | .pass => [1, 0, 0]
      | .live => [2, 0, 0]
      | .peerClosed => [3, 1, 0]
      | .noSupply => [3, 1, 1]
      | .lowResistance => [3, 1, 2]
      | .invalid => [3, 1, 3]
      | .aborted => [4, 0, 0]
    let status (t : State) : List Byte :=
      [num t.rect.state.number] ++ one (t.rect.cause.map RectCause.number)
        ++ [num t.tracker.state.number, bit (t.sample.state = .blind)]
        ++ (feeders.flatMap fun f => [num t.ctx[f].state.number]
          ++ one (if t.ctx[f].state = .locked then t.ctx[f].lock.map fun y => y.code - 1 else none))
        ++ (feeders.map fun f => num t.sections[f].coord.number)
        ++ (feeders.flatMap fun f => [bit t.inputs.earth[f],
          bit (!t.sections[f].blocks.isEmpty || !t.sections[f].peers.isEmpty || t.sections[f].overflow)])
        ++ [num t.links.u.state.number, num t.links.d.state.number, bit (t.inputs.selector = .remotePos), bit t.startHold,
          bit (t.inputs.selector = .remotePos), bit t.inputs.eoff, bit t.inputs.acClosed,
          bit (t.inputs.eoff || t.rect.demandBus || t.rect.demandBreaker), bit t.lineTest.tested.isSome]
        ++ one (t.lineTest.tested.map fun f => f.val + 1) ++ ms t.lineTest.timer
        ++ listed (t.lineTest.queue.map fun f => [num (f.val + 1)])
        ++ bytes16 t.journal.entries.length ++ bytes16 (t.unread p).length
    let feeder (t : State) (f : Feeder) : List Byte :=
      let c := t.ctx[f]
      let d := t.disc[f]
      let r := t.lineTest.last[f]
      [num c.state.number] ++ one (c.lock.map fun y => y.code - 1) ++ one (c.lastTrip.map fun y => y.code - 1)
        ++ optional 3 (c.disp.map disposition) ++ [num c.count, bit c.auto]
        ++ one (c.wait.map fun w => if w = .timed then 0 else 1) ++ ms c.tripTimer ++ ms c.closeTimer ++ ms c.deadTimer
        ++ sec c.reclaimTimer ++ sec c.followTimer
        ++ [bit t.inputs.breaker[f], bit (c.state = .closing), bit (c.state = .tripping || c.state = .stuck)]
        ++ two d.prev ++ [num d.instRun, bit d.instAlarm]
        ++ optional 8 (d.episode.map fun e => bytes16 e.base ++ bytes16 e.length ++ bytes32 e.rise)
        ++ bytes16 d.blank ++ bytes32 (d.fine / 65536) ++ [bit d.warn, bit d.thermalAlarm] ++ bytes16 d.ended
        ++ bytes16 d.largest ++ bytes16 d.cancelled ++ bytes16 d.instOps ++ bytes16 d.rorOps ++ bytes16 d.thermalOps
        ++ result r.result ++ [bit r.auto] ++ two r.vBus ++ two r.vLine ++ bytes32 r.value
        ++ one ((t.lineTest.queue.findIdx? fun g => g = f).map (· + 1)) ++ [bit (t.lineTest.tested = some f)]
    let rectifier (t : State) : List Byte :=
      let r := t.rect
      let hard : Bool := r.cause = some .busFault || r.cause = some .breakerFail || r.cause = some .gateFault || r.cause = some .eoff
      [num r.state.number] ++ one (r.cause.map RectCause.number) ++ [bit (r.state = .blocked && hard)] ++ bytes16 r.alpha
        ++ [num r.shiftCount]
        ++ optional 3 (r.shiftEnd.map fun y => match y with
          | .stopped => [0, 0, 0]
          | .blocked z => [1, 1, num z.number])
        ++ ms r.restart ++ two r.vMeas ++ optional 4 (r.iMeas.map bytes32) ++ bytes16 r.noData
        ++ r.gates.toList.map (fun y => num y.miss)
        ++ [num r.test.result.number, num r.test.repeats, num r.test.skip, num r.test.steps] ++ r.test.errors.toList.map num
        ++ [bit (!r.absDemand), bit t.absorberOut, bit r.hot] ++ bytes32 (r.fa / 65536)
        ++ [num r.diffRun, bit r.alarmStanding, (if r.demandBus then 1 else 0) + (if r.demandBreaker then 2 else 0),
          bit (t.inputs.eoff || r.demandBus || r.demandBreaker), bit t.inputs.acClosed, bit t.inputs.eoff]
        ++ bytes16 (max (t.g .alphaMax) (t.g .alphaMin))
        ++ bytes16 (max (t.g .alphaInv) (max (t.g .alphaMax) (t.g .alphaMin)))
    let link (t : State) (l : Link) : List Byte :=
      let k := t.links.get l
      [num k.state.number] ++ ms k.silence ++ ms k.loss ++ [bit k.refresh.isSome]
        ++ listed (k.queue.map fun y => [match y with
          | .status => 0
          | .tripReq _ _ => 1
          | .tripAck _ _ => 2
          | .restored _ => 3
          | .lockout _ => 4
          | .blockAdd _ _ => 5
          | .blockDel _ _ => 6
          | .blockSet _ => 7])
        ++ bytes16 k.badFrames ++ bytes16 k.ignored ++ bytes16 k.dropped
        ++ ([0, 1, 2, 3] : List Index).flatMap fun i =>
          optional 3 ((t.feederAt l i).map fun f => [num (f.val + 1),
            bit (t.sections[f].mapping.any fun m => m.role = .follow), num t.sections[f].coord.number])
          ++ [k.idx[i].tripId] ++ optional 1 (k.idx[i].lastRx.map fun y => [y])
          ++ optional 3 (k.idx[i].out.map fun o => [o.id, num o.sends, num (msLeft o.retry)])
          ++ optional 5 (k.idx[i].summary.map fun y =>
            [bit y.configured, bit (y.role = .follow), bit y.closed, bit y.earthed, num y.count])
    let journal (t : State) : List Byte :=
      let reader (q : Port) : List Byte :=
        [bit (t.readers.get q).cursor.isSome] ++ optional 4 ((t.readers.get q).cursor.map bytesStamp)
          ++ bytes16 (t.unread q).length ++ bytes16 (t.readers.get q).lost ++ [(t.readers.get q).mask]
      bytes16 t.journal.entries.length ++ optional 4 (t.journal.entries.head?.map fun e => bytesStamp e.seq)
        ++ optional 4 (t.journal.entries.getLast?.map fun e => bytesStamp e.seq) ++ bytesStamp t.journal.seq
        ++ bytesStamp t.time.ms ++ reader .s ++ reader .c
        ++ ([0, 1, 2, 3, 4, 5, 6, 7] : List (Fin 8)).flatMap fun k =>
          let y := t.slots[k]
          if y.state = .free then [0, 0, 0, 0, 0, 0, 0]
          else [if y.state = .filling then 1 else 2, 1, num (y.feeder.val + 1)]
            ++ bytesStamp (((t.journal.entries.find? fun e => decide (e.ref = some k)).map Entry.seq).getD 0)
    exec (.readStatus p) s = .next (done [0x01] fun t => some (status t)) ∧
    exec (.readMeasurements p) s = .next (done [0x03] fun t => some (
      t.sample.channels.toList.flatMap channel ++ [if t.sample.state = .live then 0 else 1, BitVec.ofNat 8 t.sample.resume]
        ++ t.sample.failed.toList.map (fun x => if x then 1 else 0) ++ bytes16 t.sample.gapCount
        ++ bytes16 t.sample.setErrors ++ feeders.flatMap fun f => bytes32 (t.disc[f].fine / 65536))) ∧
    exec (.readFeeder p n) s = .next (done [0x04, n] fun t => (feederOf n).map (feeder t)) ∧
    exec (.readSection p n) s = .next (done [0x05, n] fun t => (feederOf n).map fun f =>
      let x := t.sections[f]
      mappingBytes x.mapping ++ [BitVec.ofNat 8 x.coord.number, if t.inputs.earth[f] then 1 else 0]
        ++ listed (x.blocks.map entry) ++ listed (x.peers.map bytesTag) ++ [if x.overflow then 1 else 0]
        ++ listed ((t.announced f).map bytesTag)
        ++ optional 2 (x.summary.map fun y => [if y.closed then 1 else 0, if y.earthed then 1 else 0])
        ++ [BitVec.ofNat 8 (t.interlock f false).number, BitVec.ofNat 8 (t.interlock f true).number,
          if t.inputs.selector = .localPos then 0 else 1, if t.startHold then 1 else 0]) ∧
    exec (.readRectifier p) s = .next (done [0x06] fun t => some (rectifier t)) ∧
    exec (.readTracker p) s = .next (done [0x07] fun t => some (
      [BitVec.ofNat 8 t.tracker.state.number] ++ optional 4 (t.tracker.period.map bytes32)
        ++ optional 4 (t.tracker.prev.map bytesStamp)
        ++ [BitVec.ofNat 8 t.tracker.good, BitVec.ofNat 8 t.tracker.holdover] ++ bytes16 t.tracker.glitches
        ++ bytes16 t.tracker.ranges ++ bytes16 t.tracker.slips ++ bytesStamp t.time.stamp)) ∧
    exec (.readLink p n) s = .next (done [0x08, n] fun t =>
      if n = 1 then some (link t .u) else if n = 2 then some (link t .d) else none) ∧
    exec (.readJournalState p) s = .next (done [0x0A] fun t => some (journal t)) ∧
    ∃ w : BitVec 16,
      left = .next { u with ports := u.ports.set p { u.ports.get p with
        latches := w, phase := .response, buffer := [0x02]
        response := [0, word.extractLsb' 8 8, word.extractLsb' 0 8] } } ∧
      w &&& b.bit = if u.present b then word &&& b.bit else 0

/-- WRITE_SETTING and READ_SETTING are judged, store or return the value, and take their effects. What it says beyond
the spec is the model's own, by log 20, 33, 39. -/
def Obligations.SettingsAreReadAndWritten : Prop :=
  ∀ (p : Port) (id : Byte) (value : BitVec 32) (s : State),
    let req := [0x40, id, value.extractLsb' 24 8, value.extractLsb' 16 8, value.extractLsb' 8 8, value.extractLsb' 0 8]
    let u := s.receiveRequest p req
    let write (n : SettingName) : Reply :=
      let row := settingRow n
      let v : Int := if row.enumerated then value.toInt else max row.lo (min value.toInt row.hi)
      let limited := v ≠ value.toInt
      let st := u.settings.write n v
      let isMap : Bool := match n with
        | .feeder _ i => decide (21 ≤ i.val)
        | .glob _ => false
      let isAlpha : Bool := match n with
        | .glob i => decide (4 ≤ i.val ∧ i.val ≤ 6)
        | .feeder _ _ => false
      let moved := feeders.any fun f =>
        decide (u.sections[f].mapping ≠ st.mapping f ∧ u.ctx[f].state ≠ .opened ∧ u.ctx[f].state ≠ .locked)
      let stored := ({ u with settings := st } : State).append .settingChanged (.port p) (.setting id.toNat) v
      let alpha : Int :=
        if stored.rect.state = .starting ∨ stored.rect.state = .running then
          if n = .glob 6 then stored.rect.alpha else max (st.g .alphaMin) (min stored.rect.alpha st.alphaMax')
        else if stored.rect.state = .shifting then st.alphaInv'
        else stored.rect.alpha
      let acted : State :=
        if isAlpha then { stored with rect := { stored.rect with alpha := alpha } }
        else if n = .glob 13 then stored.tryRestart
        else if isMap then stored.remap
        else stored
      if row.enumerated = true ∧ (value.toInt < row.lo ∨ row.hi < value.toInt) then ⟨u, .badArgument, []⟩
      else if isMap = true ∧ moved = true then ⟨u, .state, []⟩
      else
        let t := if u.settings.value n = v then u else acted
        ⟨if limited then t.onset .settingsClamped else t,
          if limited then .clamped else if u.settings.value n = v then .ok else .accepted, bytes32 (t.settings.value n)⟩
    let written : Reply :=
      if p = .c then ⟨u, .notPermitted, []⟩
      else
        match settingNamed id.toNat with
        | none => ⟨u, .badArgument, []⟩
        | some n => write n
    let r := s.receiveRequest p [0x09, id]
    let read : Reply :=
      match settingNamed id.toNat with
      | none => ⟨r, .badArgument, []⟩
      | some n =>
        let row := settingRow n
        ⟨r, .ok, bytes32 (r.settings.value n) ++ bytes32 row.lo ++ bytes32 row.hi ++ bytes32 row.dflt⟩
    exec (.writeSetting p id value) s = .next (written.respond p req) ∧
    exec (.readSetting p id) s = .next (read.respond p [0x09, id])

/-- A changed coordination map moves the sections, drops the lost indices and reports its onsets. What it says beyond
the spec is the model's own, by log 12, 15. -/
def Obligations.CoordinationMapIsFormedAgain : Prop :=
  ∀ (s : State) (f : Feeder) (new : Option Mapping),
    let x := s.sections[f]
    let st := s.settings
    let named (g : Feeder) : Option (Link × Index × Role) :=
      let place : Index × Role :=
        (Fin.ofNat 4 (st.f g .index).toNat, if st.f g .role = 1 then Role.follow else Role.lead)
      if st.f g .link = 1 then some (.u, place) else if st.f g .link = 2 then some (.d, place) else none
    let earlier : Bool := feeders.any fun g => decide (g < f) && match named f, named g with
      | some (l, i, _), some (k, j, _) => decide (l = k ∧ i = j)
      | _, _ => false
    let standing := feeders.all fun g => s.sections[g].mapping.isNone || decide (s.sections[g].coord = .coordinated)
    let put (z : Section) : State := { s with sections := s.sections.set f z }
    let gone := x.peers.foldl (fun t y => t.append .blockRemoved (.sec f) .removedPeer y.toNat)
      (put { x with mapping := new, peers := [], overflow := false, summary := none })
    let marked := if x.overflow then gone.append .blockRemoved (.sec f) .removedPeerOverflow 0 else gone
    let pairs : List (Link × Index) := [(.u, 0), (.u, 1), (.u, 2), (.u, 3), (.d, 0), (.d, 1), (.d, 2), (.d, 3)]
    let moved := feeders.foldl (fun t g =>
      if t.sections[g].mapping = st.mapping g then t else t.remapSection g (st.mapping g)) s
    let dropped (t : State) (k : Link × Index) : State :=
      if s.feederAt k.1 k.2 ≠ none ∧ t.feederAt k.1 k.2 ≠ s.feederAt k.1 k.2 then
        let y := (t.links.get k.1).idx[k.2]
        let u : State := { t with links := t.links.set k.1 { t.links.get k.1 with
          idx := (t.links.get k.1).idx.set k.2 { y with out := none, lastRx := none } } }
        match y.out with
        | some o => u.append .intertripUnack (.sec o.feeder) .unackMapChanged o.id.toNat
        | none => u
      else t
    let gained (t : State) (l : Link) (b : Latch) : State :=
      if t.mappedTo l = true ∧ s.mappedTo l = false ∧ (t.links.get l).state ≠ .up then t.onset b else t
    let told := gained (gained (pairs.foldl dropped moved) .u .linkUDown) .d .linkDDown
    let lost := feeders.any fun g => (st.names g).isSome && (st.mapping g).isNone
    (st.mapping f).map (fun m => (m.link, m.index, m.role)) = (if earlier then none else named f) ∧
    s.remapSection f new = (
      match x.mapping, new with
      | none, none => put { x with mapping := new }
      | some a, some b =>
        if a.link = b.link ∧ a.index = b.index then put { x with mapping := new }
        else marked.setCoordination f .uncoordinated standing
      | none, some _ => marked.setCoordination f .uncoordinated standing
      | some _, none => marked.setCoordination f .single standing) ∧
    s.remap = if lost then told.onset .settingsClamped else told

/-- Well-formed requests and peer frames are read back from their bytes, and a reception that is no frame's bytes is
bad. -/
def Obligations.RequestsAndFramesDecodeAsEncoded : Prop :=
  (∀ x : PeerFrame, x.wellFormed = true →
    judgeFrame ⟨false, encodeFrame x⟩ = some x ∧
    ∀ l : Link, decodeFrame l ⟨false, encodeFrame x⟩ = x.command l ∧
      decodeFrame l ⟨true, encodeFrame x⟩ = .badFrame l ⟨true, encodeFrame x⟩) ∧
  (∀ (rx : Reception) (x : PeerFrame), judgeFrame rx = some x ↔
    rx.lineError = false ∧ x.wellFormed = true ∧ ∃ body, rx.bytes = body ++ tagBytes (crc16 body) ∧
      match x with
      | .status _ => body.head? = some 0x01 ∧ body.tail.map (fun b => b &&& 0x7F) = x.body.tail
      | .tripReq _ _ | .tripAck _ _ | .restored _ | .lockout _ | .blockAdd _ _ | .blockDel _ _ | .blockSet _ _ =>
        body = x.body) ∧
  ∀ (c : Instr) (p : Port) (bytes : List Byte), c.wellFormed = true → encodeRequest c = some (p, bytes) →
    decodeRequest p bytes = some c ∧ bytes.length = requestLength (bytes.headD 0)

/-! ## Invariants that every step keeps -/

/-- Every step keeps: a gate is driven only in a firing situation or in a gate test. -/
def Obligations.GatesAreDrivenOnlyWhereAllowed : Prop :=
  ∀ s t : State, s.GatesAllowed → step s = .next t → t.GatesAllowed

/-- Every step keeps the feeders safe: no barred section's feeder is closed, closing or reclosing. -/
def Obligations.FeedersStaySafe : Prop :=
  ∀ s t : State, s.FeedersSafe → step s = .next t → t.FeedersSafe

/-- Every step keeps the journal numbered without a gap, its readers in it, and each record owned by one entry. -/
def Obligations.JournalAndRecordsStaySound : Prop :=
  ∀ s t : State, (s.JournalNumbered ∧ s.CursorsPlaced ∧ s.RecordsReferenced) → step s = .next t → (t.JournalNumbered ∧ t.CursorsPlaced ∧ t.RecordsReferenced)

/-- Every step keeps the coordination map of the settings and the latches of the conditions present. -/
def Obligations.MapAndConditionsStayShown : Prop :=
  ∀ s t : State, (s.MapFollowsSettings ∧ s.ConditionsLatched) → step s = .next t → (t.MapFollowsSettings ∧ t.ConditionsLatched)

/-- The reset state satisfies every invariant, and the power-on reset with quiet inputs reaches it. What it says
beyond the spec is the model's own, by log 1, 4, 10, 16, 17, 24, 28. -/
def Obligations.ResetStateIsSound : Prop :=
  State.reset.GatesAllowed ∧ State.reset.FeedersSafe ∧ State.reset.JournalNumbered ∧ State.reset.CursorsPlaced ∧
    State.reset.RecordsReferenced ∧ State.reset.MapFollowsSettings ∧ State.reset.ConditionsLatched ∧ State.reset.tracker.period = none ∧
    ∀ s : State, exec (.powerOnReset Inputs.quiet) s = .next { State.reset with trips := ⟨[], s.trips.late⟩, pending := s.pending }

end Statements
end

