-- ==== Sys2Proof/Laws/State.lean ====
section
/-! SUPPORT. What each update of one unit leaves in every field of State, one lemma per field per update, all true by
`rfl`; and reading after writing one feeder, section, link, port, reader or slot. -/

namespace Sys2Proof.Machine

/-! ## modSample -/

@[simp] theorem State.modSample_inputs (s : State) (g : SampleUnit → SampleUnit) : (s.modSample g).inputs = s.inputs := rfl
@[simp] theorem State.modSample_time (s : State) (g : SampleUnit → SampleUnit) : (s.modSample g).time = s.time := rfl
@[simp] theorem State.modSample_sample (s : State) (g : SampleUnit → SampleUnit) : (s.modSample g).sample = g s.sample := rfl
@[simp] theorem State.modSample_tracker (s : State) (g : SampleUnit → SampleUnit) : (s.modSample g).tracker = s.tracker := rfl
@[simp] theorem State.modSample_rect (s : State) (g : SampleUnit → SampleUnit) : (s.modSample g).rect = s.rect := rfl
@[simp] theorem State.modSample_disc (s : State) (g : SampleUnit → SampleUnit) : (s.modSample g).disc = s.disc := rfl
@[simp] theorem State.modSample_trips (s : State) (g : SampleUnit → SampleUnit) : (s.modSample g).trips = s.trips := rfl
@[simp] theorem State.modSample_ctx (s : State) (g : SampleUnit → SampleUnit) : (s.modSample g).ctx = s.ctx := rfl
@[simp] theorem State.modSample_lineTest (s : State) (g : SampleUnit → SampleUnit) : (s.modSample g).lineTest = s.lineTest := rfl
@[simp] theorem State.modSample_sections (s : State) (g : SampleUnit → SampleUnit) : (s.modSample g).sections = s.sections := rfl
@[simp] theorem State.modSample_startHold (s : State) (g : SampleUnit → SampleUnit) : (s.modSample g).startHold = s.startHold := rfl
@[simp] theorem State.modSample_links (s : State) (g : SampleUnit → SampleUnit) : (s.modSample g).links = s.links := rfl
@[simp] theorem State.modSample_journal (s : State) (g : SampleUnit → SampleUnit) : (s.modSample g).journal = s.journal := rfl
@[simp] theorem State.modSample_readers (s : State) (g : SampleUnit → SampleUnit) : (s.modSample g).readers = s.readers := rfl
@[simp] theorem State.modSample_slots (s : State) (g : SampleUnit → SampleUnit) : (s.modSample g).slots = s.slots := rfl
@[simp] theorem State.modSample_ports (s : State) (g : SampleUnit → SampleUnit) : (s.modSample g).ports = s.ports := rfl
@[simp] theorem State.modSample_settings (s : State) (g : SampleUnit → SampleUnit) : (s.modSample g).settings = s.settings := rfl
@[simp] theorem State.modSample_pending (s : State) (g : SampleUnit → SampleUnit) : (s.modSample g).pending = s.pending := rfl

/-! ## modTracker -/

@[simp] theorem State.modTracker_inputs (s : State) (g : Tracker → Tracker) : (s.modTracker g).inputs = s.inputs := rfl
@[simp] theorem State.modTracker_time (s : State) (g : Tracker → Tracker) : (s.modTracker g).time = s.time := rfl
@[simp] theorem State.modTracker_sample (s : State) (g : Tracker → Tracker) : (s.modTracker g).sample = s.sample := rfl
@[simp] theorem State.modTracker_tracker (s : State) (g : Tracker → Tracker) : (s.modTracker g).tracker = g s.tracker := rfl
@[simp] theorem State.modTracker_rect (s : State) (g : Tracker → Tracker) : (s.modTracker g).rect = s.rect := rfl
@[simp] theorem State.modTracker_disc (s : State) (g : Tracker → Tracker) : (s.modTracker g).disc = s.disc := rfl
@[simp] theorem State.modTracker_trips (s : State) (g : Tracker → Tracker) : (s.modTracker g).trips = s.trips := rfl
@[simp] theorem State.modTracker_ctx (s : State) (g : Tracker → Tracker) : (s.modTracker g).ctx = s.ctx := rfl
@[simp] theorem State.modTracker_lineTest (s : State) (g : Tracker → Tracker) : (s.modTracker g).lineTest = s.lineTest := rfl
@[simp] theorem State.modTracker_sections (s : State) (g : Tracker → Tracker) : (s.modTracker g).sections = s.sections := rfl
@[simp] theorem State.modTracker_startHold (s : State) (g : Tracker → Tracker) : (s.modTracker g).startHold = s.startHold := rfl
@[simp] theorem State.modTracker_links (s : State) (g : Tracker → Tracker) : (s.modTracker g).links = s.links := rfl
@[simp] theorem State.modTracker_journal (s : State) (g : Tracker → Tracker) : (s.modTracker g).journal = s.journal := rfl
@[simp] theorem State.modTracker_readers (s : State) (g : Tracker → Tracker) : (s.modTracker g).readers = s.readers := rfl
@[simp] theorem State.modTracker_slots (s : State) (g : Tracker → Tracker) : (s.modTracker g).slots = s.slots := rfl
@[simp] theorem State.modTracker_ports (s : State) (g : Tracker → Tracker) : (s.modTracker g).ports = s.ports := rfl
@[simp] theorem State.modTracker_settings (s : State) (g : Tracker → Tracker) : (s.modTracker g).settings = s.settings := rfl
@[simp] theorem State.modTracker_pending (s : State) (g : Tracker → Tracker) : (s.modTracker g).pending = s.pending := rfl

/-! ## modRect -/

@[simp] theorem State.modRect_inputs (s : State) (g : Rectifier → Rectifier) : (s.modRect g).inputs = s.inputs := rfl
@[simp] theorem State.modRect_time (s : State) (g : Rectifier → Rectifier) : (s.modRect g).time = s.time := rfl
@[simp] theorem State.modRect_sample (s : State) (g : Rectifier → Rectifier) : (s.modRect g).sample = s.sample := rfl
@[simp] theorem State.modRect_tracker (s : State) (g : Rectifier → Rectifier) : (s.modRect g).tracker = s.tracker := rfl
@[simp] theorem State.modRect_rect (s : State) (g : Rectifier → Rectifier) : (s.modRect g).rect = g s.rect := rfl
@[simp] theorem State.modRect_disc (s : State) (g : Rectifier → Rectifier) : (s.modRect g).disc = s.disc := rfl
@[simp] theorem State.modRect_trips (s : State) (g : Rectifier → Rectifier) : (s.modRect g).trips = s.trips := rfl
@[simp] theorem State.modRect_ctx (s : State) (g : Rectifier → Rectifier) : (s.modRect g).ctx = s.ctx := rfl
@[simp] theorem State.modRect_lineTest (s : State) (g : Rectifier → Rectifier) : (s.modRect g).lineTest = s.lineTest := rfl
@[simp] theorem State.modRect_sections (s : State) (g : Rectifier → Rectifier) : (s.modRect g).sections = s.sections := rfl
@[simp] theorem State.modRect_startHold (s : State) (g : Rectifier → Rectifier) : (s.modRect g).startHold = s.startHold := rfl
@[simp] theorem State.modRect_links (s : State) (g : Rectifier → Rectifier) : (s.modRect g).links = s.links := rfl
@[simp] theorem State.modRect_journal (s : State) (g : Rectifier → Rectifier) : (s.modRect g).journal = s.journal := rfl
@[simp] theorem State.modRect_readers (s : State) (g : Rectifier → Rectifier) : (s.modRect g).readers = s.readers := rfl
@[simp] theorem State.modRect_slots (s : State) (g : Rectifier → Rectifier) : (s.modRect g).slots = s.slots := rfl
@[simp] theorem State.modRect_ports (s : State) (g : Rectifier → Rectifier) : (s.modRect g).ports = s.ports := rfl
@[simp] theorem State.modRect_settings (s : State) (g : Rectifier → Rectifier) : (s.modRect g).settings = s.settings := rfl
@[simp] theorem State.modRect_pending (s : State) (g : Rectifier → Rectifier) : (s.modRect g).pending = s.pending := rfl

/-! ## modTest -/

@[simp] theorem State.modTest_inputs (s : State) (g : GateTest → GateTest) : (s.modTest g).inputs = s.inputs := rfl
@[simp] theorem State.modTest_time (s : State) (g : GateTest → GateTest) : (s.modTest g).time = s.time := rfl
@[simp] theorem State.modTest_sample (s : State) (g : GateTest → GateTest) : (s.modTest g).sample = s.sample := rfl
@[simp] theorem State.modTest_tracker (s : State) (g : GateTest → GateTest) : (s.modTest g).tracker = s.tracker := rfl
@[simp] theorem State.modTest_rect (s : State) (g : GateTest → GateTest) : (s.modTest g).rect = { s.rect with test := g s.rect.test } := rfl
@[simp] theorem State.modTest_disc (s : State) (g : GateTest → GateTest) : (s.modTest g).disc = s.disc := rfl
@[simp] theorem State.modTest_trips (s : State) (g : GateTest → GateTest) : (s.modTest g).trips = s.trips := rfl
@[simp] theorem State.modTest_ctx (s : State) (g : GateTest → GateTest) : (s.modTest g).ctx = s.ctx := rfl
@[simp] theorem State.modTest_lineTest (s : State) (g : GateTest → GateTest) : (s.modTest g).lineTest = s.lineTest := rfl
@[simp] theorem State.modTest_sections (s : State) (g : GateTest → GateTest) : (s.modTest g).sections = s.sections := rfl
@[simp] theorem State.modTest_startHold (s : State) (g : GateTest → GateTest) : (s.modTest g).startHold = s.startHold := rfl
@[simp] theorem State.modTest_links (s : State) (g : GateTest → GateTest) : (s.modTest g).links = s.links := rfl
@[simp] theorem State.modTest_journal (s : State) (g : GateTest → GateTest) : (s.modTest g).journal = s.journal := rfl
@[simp] theorem State.modTest_readers (s : State) (g : GateTest → GateTest) : (s.modTest g).readers = s.readers := rfl
@[simp] theorem State.modTest_slots (s : State) (g : GateTest → GateTest) : (s.modTest g).slots = s.slots := rfl
@[simp] theorem State.modTest_ports (s : State) (g : GateTest → GateTest) : (s.modTest g).ports = s.ports := rfl
@[simp] theorem State.modTest_settings (s : State) (g : GateTest → GateTest) : (s.modTest g).settings = s.settings := rfl
@[simp] theorem State.modTest_pending (s : State) (g : GateTest → GateTest) : (s.modTest g).pending = s.pending := rfl

/-! ## modGate -/

@[simp] theorem State.modGate_inputs (s : State) (k : Gate) (g : GateUnit → GateUnit) : (s.modGate k g).inputs = s.inputs := rfl
@[simp] theorem State.modGate_time (s : State) (k : Gate) (g : GateUnit → GateUnit) : (s.modGate k g).time = s.time := rfl
@[simp] theorem State.modGate_sample (s : State) (k : Gate) (g : GateUnit → GateUnit) : (s.modGate k g).sample = s.sample := rfl
@[simp] theorem State.modGate_tracker (s : State) (k : Gate) (g : GateUnit → GateUnit) : (s.modGate k g).tracker = s.tracker := rfl
@[simp] theorem State.modGate_rect (s : State) (k : Gate) (g : GateUnit → GateUnit) : (s.modGate k g).rect = { s.rect with gates := s.rect.gates.set k (g s.rect.gates[k]) } := rfl
@[simp] theorem State.modGate_disc (s : State) (k : Gate) (g : GateUnit → GateUnit) : (s.modGate k g).disc = s.disc := rfl
@[simp] theorem State.modGate_trips (s : State) (k : Gate) (g : GateUnit → GateUnit) : (s.modGate k g).trips = s.trips := rfl
@[simp] theorem State.modGate_ctx (s : State) (k : Gate) (g : GateUnit → GateUnit) : (s.modGate k g).ctx = s.ctx := rfl
@[simp] theorem State.modGate_lineTest (s : State) (k : Gate) (g : GateUnit → GateUnit) : (s.modGate k g).lineTest = s.lineTest := rfl
@[simp] theorem State.modGate_sections (s : State) (k : Gate) (g : GateUnit → GateUnit) : (s.modGate k g).sections = s.sections := rfl
@[simp] theorem State.modGate_startHold (s : State) (k : Gate) (g : GateUnit → GateUnit) : (s.modGate k g).startHold = s.startHold := rfl
@[simp] theorem State.modGate_links (s : State) (k : Gate) (g : GateUnit → GateUnit) : (s.modGate k g).links = s.links := rfl
@[simp] theorem State.modGate_journal (s : State) (k : Gate) (g : GateUnit → GateUnit) : (s.modGate k g).journal = s.journal := rfl
@[simp] theorem State.modGate_readers (s : State) (k : Gate) (g : GateUnit → GateUnit) : (s.modGate k g).readers = s.readers := rfl
@[simp] theorem State.modGate_slots (s : State) (k : Gate) (g : GateUnit → GateUnit) : (s.modGate k g).slots = s.slots := rfl
@[simp] theorem State.modGate_ports (s : State) (k : Gate) (g : GateUnit → GateUnit) : (s.modGate k g).ports = s.ports := rfl
@[simp] theorem State.modGate_settings (s : State) (k : Gate) (g : GateUnit → GateUnit) : (s.modGate k g).settings = s.settings := rfl
@[simp] theorem State.modGate_pending (s : State) (k : Gate) (g : GateUnit → GateUnit) : (s.modGate k g).pending = s.pending := rfl

/-! ## modDisc -/

@[simp] theorem State.modDisc_inputs (s : State) (f : Feeder) (g : Disc → Disc) : (s.modDisc f g).inputs = s.inputs := rfl
@[simp] theorem State.modDisc_time (s : State) (f : Feeder) (g : Disc → Disc) : (s.modDisc f g).time = s.time := rfl
@[simp] theorem State.modDisc_sample (s : State) (f : Feeder) (g : Disc → Disc) : (s.modDisc f g).sample = s.sample := rfl
@[simp] theorem State.modDisc_tracker (s : State) (f : Feeder) (g : Disc → Disc) : (s.modDisc f g).tracker = s.tracker := rfl
@[simp] theorem State.modDisc_rect (s : State) (f : Feeder) (g : Disc → Disc) : (s.modDisc f g).rect = s.rect := rfl
@[simp] theorem State.modDisc_disc (s : State) (f : Feeder) (g : Disc → Disc) : (s.modDisc f g).disc = s.disc.set f (g s.disc[f]) := rfl
@[simp] theorem State.modDisc_trips (s : State) (f : Feeder) (g : Disc → Disc) : (s.modDisc f g).trips = s.trips := rfl
@[simp] theorem State.modDisc_ctx (s : State) (f : Feeder) (g : Disc → Disc) : (s.modDisc f g).ctx = s.ctx := rfl
@[simp] theorem State.modDisc_lineTest (s : State) (f : Feeder) (g : Disc → Disc) : (s.modDisc f g).lineTest = s.lineTest := rfl
@[simp] theorem State.modDisc_sections (s : State) (f : Feeder) (g : Disc → Disc) : (s.modDisc f g).sections = s.sections := rfl
@[simp] theorem State.modDisc_startHold (s : State) (f : Feeder) (g : Disc → Disc) : (s.modDisc f g).startHold = s.startHold := rfl
@[simp] theorem State.modDisc_links (s : State) (f : Feeder) (g : Disc → Disc) : (s.modDisc f g).links = s.links := rfl
@[simp] theorem State.modDisc_journal (s : State) (f : Feeder) (g : Disc → Disc) : (s.modDisc f g).journal = s.journal := rfl
@[simp] theorem State.modDisc_readers (s : State) (f : Feeder) (g : Disc → Disc) : (s.modDisc f g).readers = s.readers := rfl
@[simp] theorem State.modDisc_slots (s : State) (f : Feeder) (g : Disc → Disc) : (s.modDisc f g).slots = s.slots := rfl
@[simp] theorem State.modDisc_ports (s : State) (f : Feeder) (g : Disc → Disc) : (s.modDisc f g).ports = s.ports := rfl
@[simp] theorem State.modDisc_settings (s : State) (f : Feeder) (g : Disc → Disc) : (s.modDisc f g).settings = s.settings := rfl
@[simp] theorem State.modDisc_pending (s : State) (f : Feeder) (g : Disc → Disc) : (s.modDisc f g).pending = s.pending := rfl

/-! ## modTrips -/

@[simp] theorem State.modTrips_inputs (s : State) (g : TripQueue → TripQueue) : (s.modTrips g).inputs = s.inputs := rfl
@[simp] theorem State.modTrips_time (s : State) (g : TripQueue → TripQueue) : (s.modTrips g).time = s.time := rfl
@[simp] theorem State.modTrips_sample (s : State) (g : TripQueue → TripQueue) : (s.modTrips g).sample = s.sample := rfl
@[simp] theorem State.modTrips_tracker (s : State) (g : TripQueue → TripQueue) : (s.modTrips g).tracker = s.tracker := rfl
@[simp] theorem State.modTrips_rect (s : State) (g : TripQueue → TripQueue) : (s.modTrips g).rect = s.rect := rfl
@[simp] theorem State.modTrips_disc (s : State) (g : TripQueue → TripQueue) : (s.modTrips g).disc = s.disc := rfl
@[simp] theorem State.modTrips_trips (s : State) (g : TripQueue → TripQueue) : (s.modTrips g).trips = g s.trips := rfl
@[simp] theorem State.modTrips_ctx (s : State) (g : TripQueue → TripQueue) : (s.modTrips g).ctx = s.ctx := rfl
@[simp] theorem State.modTrips_lineTest (s : State) (g : TripQueue → TripQueue) : (s.modTrips g).lineTest = s.lineTest := rfl
@[simp] theorem State.modTrips_sections (s : State) (g : TripQueue → TripQueue) : (s.modTrips g).sections = s.sections := rfl
@[simp] theorem State.modTrips_startHold (s : State) (g : TripQueue → TripQueue) : (s.modTrips g).startHold = s.startHold := rfl
@[simp] theorem State.modTrips_links (s : State) (g : TripQueue → TripQueue) : (s.modTrips g).links = s.links := rfl
@[simp] theorem State.modTrips_journal (s : State) (g : TripQueue → TripQueue) : (s.modTrips g).journal = s.journal := rfl
@[simp] theorem State.modTrips_readers (s : State) (g : TripQueue → TripQueue) : (s.modTrips g).readers = s.readers := rfl
@[simp] theorem State.modTrips_slots (s : State) (g : TripQueue → TripQueue) : (s.modTrips g).slots = s.slots := rfl
@[simp] theorem State.modTrips_ports (s : State) (g : TripQueue → TripQueue) : (s.modTrips g).ports = s.ports := rfl
@[simp] theorem State.modTrips_settings (s : State) (g : TripQueue → TripQueue) : (s.modTrips g).settings = s.settings := rfl
@[simp] theorem State.modTrips_pending (s : State) (g : TripQueue → TripQueue) : (s.modTrips g).pending = s.pending := rfl

/-! ## modCtx -/

@[simp] theorem State.modCtx_inputs (s : State) (f : Feeder) (g : Context → Context) : (s.modCtx f g).inputs = s.inputs := rfl
@[simp] theorem State.modCtx_time (s : State) (f : Feeder) (g : Context → Context) : (s.modCtx f g).time = s.time := rfl
@[simp] theorem State.modCtx_sample (s : State) (f : Feeder) (g : Context → Context) : (s.modCtx f g).sample = s.sample := rfl
@[simp] theorem State.modCtx_tracker (s : State) (f : Feeder) (g : Context → Context) : (s.modCtx f g).tracker = s.tracker := rfl
@[simp] theorem State.modCtx_rect (s : State) (f : Feeder) (g : Context → Context) : (s.modCtx f g).rect = s.rect := rfl
@[simp] theorem State.modCtx_disc (s : State) (f : Feeder) (g : Context → Context) : (s.modCtx f g).disc = s.disc := rfl
@[simp] theorem State.modCtx_trips (s : State) (f : Feeder) (g : Context → Context) : (s.modCtx f g).trips = s.trips := rfl
@[simp] theorem State.modCtx_ctx (s : State) (f : Feeder) (g : Context → Context) : (s.modCtx f g).ctx = s.ctx.set f (g s.ctx[f]) := rfl
@[simp] theorem State.modCtx_lineTest (s : State) (f : Feeder) (g : Context → Context) : (s.modCtx f g).lineTest = s.lineTest := rfl
@[simp] theorem State.modCtx_sections (s : State) (f : Feeder) (g : Context → Context) : (s.modCtx f g).sections = s.sections := rfl
@[simp] theorem State.modCtx_startHold (s : State) (f : Feeder) (g : Context → Context) : (s.modCtx f g).startHold = s.startHold := rfl
@[simp] theorem State.modCtx_links (s : State) (f : Feeder) (g : Context → Context) : (s.modCtx f g).links = s.links := rfl
@[simp] theorem State.modCtx_journal (s : State) (f : Feeder) (g : Context → Context) : (s.modCtx f g).journal = s.journal := rfl
@[simp] theorem State.modCtx_readers (s : State) (f : Feeder) (g : Context → Context) : (s.modCtx f g).readers = s.readers := rfl
@[simp] theorem State.modCtx_slots (s : State) (f : Feeder) (g : Context → Context) : (s.modCtx f g).slots = s.slots := rfl
@[simp] theorem State.modCtx_ports (s : State) (f : Feeder) (g : Context → Context) : (s.modCtx f g).ports = s.ports := rfl
@[simp] theorem State.modCtx_settings (s : State) (f : Feeder) (g : Context → Context) : (s.modCtx f g).settings = s.settings := rfl
@[simp] theorem State.modCtx_pending (s : State) (f : Feeder) (g : Context → Context) : (s.modCtx f g).pending = s.pending := rfl

/-! ## modLine -/

@[simp] theorem State.modLine_inputs (s : State) (g : LineTest → LineTest) : (s.modLine g).inputs = s.inputs := rfl
@[simp] theorem State.modLine_time (s : State) (g : LineTest → LineTest) : (s.modLine g).time = s.time := rfl
@[simp] theorem State.modLine_sample (s : State) (g : LineTest → LineTest) : (s.modLine g).sample = s.sample := rfl
@[simp] theorem State.modLine_tracker (s : State) (g : LineTest → LineTest) : (s.modLine g).tracker = s.tracker := rfl
@[simp] theorem State.modLine_rect (s : State) (g : LineTest → LineTest) : (s.modLine g).rect = s.rect := rfl
@[simp] theorem State.modLine_disc (s : State) (g : LineTest → LineTest) : (s.modLine g).disc = s.disc := rfl
@[simp] theorem State.modLine_trips (s : State) (g : LineTest → LineTest) : (s.modLine g).trips = s.trips := rfl
@[simp] theorem State.modLine_ctx (s : State) (g : LineTest → LineTest) : (s.modLine g).ctx = s.ctx := rfl
@[simp] theorem State.modLine_lineTest (s : State) (g : LineTest → LineTest) : (s.modLine g).lineTest = g s.lineTest := rfl
@[simp] theorem State.modLine_sections (s : State) (g : LineTest → LineTest) : (s.modLine g).sections = s.sections := rfl
@[simp] theorem State.modLine_startHold (s : State) (g : LineTest → LineTest) : (s.modLine g).startHold = s.startHold := rfl
@[simp] theorem State.modLine_links (s : State) (g : LineTest → LineTest) : (s.modLine g).links = s.links := rfl
@[simp] theorem State.modLine_journal (s : State) (g : LineTest → LineTest) : (s.modLine g).journal = s.journal := rfl
@[simp] theorem State.modLine_readers (s : State) (g : LineTest → LineTest) : (s.modLine g).readers = s.readers := rfl
@[simp] theorem State.modLine_slots (s : State) (g : LineTest → LineTest) : (s.modLine g).slots = s.slots := rfl
@[simp] theorem State.modLine_ports (s : State) (g : LineTest → LineTest) : (s.modLine g).ports = s.ports := rfl
@[simp] theorem State.modLine_settings (s : State) (g : LineTest → LineTest) : (s.modLine g).settings = s.settings := rfl
@[simp] theorem State.modLine_pending (s : State) (g : LineTest → LineTest) : (s.modLine g).pending = s.pending := rfl

/-! ## modSection -/

@[simp] theorem State.modSection_inputs (s : State) (f : Feeder) (g : Section → Section) : (s.modSection f g).inputs = s.inputs := rfl
@[simp] theorem State.modSection_time (s : State) (f : Feeder) (g : Section → Section) : (s.modSection f g).time = s.time := rfl
@[simp] theorem State.modSection_sample (s : State) (f : Feeder) (g : Section → Section) : (s.modSection f g).sample = s.sample := rfl
@[simp] theorem State.modSection_tracker (s : State) (f : Feeder) (g : Section → Section) : (s.modSection f g).tracker = s.tracker := rfl
@[simp] theorem State.modSection_rect (s : State) (f : Feeder) (g : Section → Section) : (s.modSection f g).rect = s.rect := rfl
@[simp] theorem State.modSection_disc (s : State) (f : Feeder) (g : Section → Section) : (s.modSection f g).disc = s.disc := rfl
@[simp] theorem State.modSection_trips (s : State) (f : Feeder) (g : Section → Section) : (s.modSection f g).trips = s.trips := rfl
@[simp] theorem State.modSection_ctx (s : State) (f : Feeder) (g : Section → Section) : (s.modSection f g).ctx = s.ctx := rfl
@[simp] theorem State.modSection_lineTest (s : State) (f : Feeder) (g : Section → Section) : (s.modSection f g).lineTest = s.lineTest := rfl
@[simp] theorem State.modSection_sections (s : State) (f : Feeder) (g : Section → Section) : (s.modSection f g).sections = s.sections.set f (g s.sections[f]) := rfl
@[simp] theorem State.modSection_startHold (s : State) (f : Feeder) (g : Section → Section) : (s.modSection f g).startHold = s.startHold := rfl
@[simp] theorem State.modSection_links (s : State) (f : Feeder) (g : Section → Section) : (s.modSection f g).links = s.links := rfl
@[simp] theorem State.modSection_journal (s : State) (f : Feeder) (g : Section → Section) : (s.modSection f g).journal = s.journal := rfl
@[simp] theorem State.modSection_readers (s : State) (f : Feeder) (g : Section → Section) : (s.modSection f g).readers = s.readers := rfl
@[simp] theorem State.modSection_slots (s : State) (f : Feeder) (g : Section → Section) : (s.modSection f g).slots = s.slots := rfl
@[simp] theorem State.modSection_ports (s : State) (f : Feeder) (g : Section → Section) : (s.modSection f g).ports = s.ports := rfl
@[simp] theorem State.modSection_settings (s : State) (f : Feeder) (g : Section → Section) : (s.modSection f g).settings = s.settings := rfl
@[simp] theorem State.modSection_pending (s : State) (f : Feeder) (g : Section → Section) : (s.modSection f g).pending = s.pending := rfl

/-! ## modLink -/

@[simp] theorem State.modLink_inputs (s : State) (l : Link) (g : LinkUnit → LinkUnit) : (s.modLink l g).inputs = s.inputs := rfl
@[simp] theorem State.modLink_time (s : State) (l : Link) (g : LinkUnit → LinkUnit) : (s.modLink l g).time = s.time := rfl
@[simp] theorem State.modLink_sample (s : State) (l : Link) (g : LinkUnit → LinkUnit) : (s.modLink l g).sample = s.sample := rfl
@[simp] theorem State.modLink_tracker (s : State) (l : Link) (g : LinkUnit → LinkUnit) : (s.modLink l g).tracker = s.tracker := rfl
@[simp] theorem State.modLink_rect (s : State) (l : Link) (g : LinkUnit → LinkUnit) : (s.modLink l g).rect = s.rect := rfl
@[simp] theorem State.modLink_disc (s : State) (l : Link) (g : LinkUnit → LinkUnit) : (s.modLink l g).disc = s.disc := rfl
@[simp] theorem State.modLink_trips (s : State) (l : Link) (g : LinkUnit → LinkUnit) : (s.modLink l g).trips = s.trips := rfl
@[simp] theorem State.modLink_ctx (s : State) (l : Link) (g : LinkUnit → LinkUnit) : (s.modLink l g).ctx = s.ctx := rfl
@[simp] theorem State.modLink_lineTest (s : State) (l : Link) (g : LinkUnit → LinkUnit) : (s.modLink l g).lineTest = s.lineTest := rfl
@[simp] theorem State.modLink_sections (s : State) (l : Link) (g : LinkUnit → LinkUnit) : (s.modLink l g).sections = s.sections := rfl
@[simp] theorem State.modLink_startHold (s : State) (l : Link) (g : LinkUnit → LinkUnit) : (s.modLink l g).startHold = s.startHold := rfl
@[simp] theorem State.modLink_links (s : State) (l : Link) (g : LinkUnit → LinkUnit) : (s.modLink l g).links = s.links.set l (g (s.links.get l)) := rfl
@[simp] theorem State.modLink_journal (s : State) (l : Link) (g : LinkUnit → LinkUnit) : (s.modLink l g).journal = s.journal := rfl
@[simp] theorem State.modLink_readers (s : State) (l : Link) (g : LinkUnit → LinkUnit) : (s.modLink l g).readers = s.readers := rfl
@[simp] theorem State.modLink_slots (s : State) (l : Link) (g : LinkUnit → LinkUnit) : (s.modLink l g).slots = s.slots := rfl
@[simp] theorem State.modLink_ports (s : State) (l : Link) (g : LinkUnit → LinkUnit) : (s.modLink l g).ports = s.ports := rfl
@[simp] theorem State.modLink_settings (s : State) (l : Link) (g : LinkUnit → LinkUnit) : (s.modLink l g).settings = s.settings := rfl
@[simp] theorem State.modLink_pending (s : State) (l : Link) (g : LinkUnit → LinkUnit) : (s.modLink l g).pending = s.pending := rfl

/-! ## modPort -/

@[simp] theorem State.modPort_inputs (s : State) (p : Port) (g : PortUnit → PortUnit) : (s.modPort p g).inputs = s.inputs := rfl
@[simp] theorem State.modPort_time (s : State) (p : Port) (g : PortUnit → PortUnit) : (s.modPort p g).time = s.time := rfl
@[simp] theorem State.modPort_sample (s : State) (p : Port) (g : PortUnit → PortUnit) : (s.modPort p g).sample = s.sample := rfl
@[simp] theorem State.modPort_tracker (s : State) (p : Port) (g : PortUnit → PortUnit) : (s.modPort p g).tracker = s.tracker := rfl
@[simp] theorem State.modPort_rect (s : State) (p : Port) (g : PortUnit → PortUnit) : (s.modPort p g).rect = s.rect := rfl
@[simp] theorem State.modPort_disc (s : State) (p : Port) (g : PortUnit → PortUnit) : (s.modPort p g).disc = s.disc := rfl
@[simp] theorem State.modPort_trips (s : State) (p : Port) (g : PortUnit → PortUnit) : (s.modPort p g).trips = s.trips := rfl
@[simp] theorem State.modPort_ctx (s : State) (p : Port) (g : PortUnit → PortUnit) : (s.modPort p g).ctx = s.ctx := rfl
@[simp] theorem State.modPort_lineTest (s : State) (p : Port) (g : PortUnit → PortUnit) : (s.modPort p g).lineTest = s.lineTest := rfl
@[simp] theorem State.modPort_sections (s : State) (p : Port) (g : PortUnit → PortUnit) : (s.modPort p g).sections = s.sections := rfl
@[simp] theorem State.modPort_startHold (s : State) (p : Port) (g : PortUnit → PortUnit) : (s.modPort p g).startHold = s.startHold := rfl
@[simp] theorem State.modPort_links (s : State) (p : Port) (g : PortUnit → PortUnit) : (s.modPort p g).links = s.links := rfl
@[simp] theorem State.modPort_journal (s : State) (p : Port) (g : PortUnit → PortUnit) : (s.modPort p g).journal = s.journal := rfl
@[simp] theorem State.modPort_readers (s : State) (p : Port) (g : PortUnit → PortUnit) : (s.modPort p g).readers = s.readers := rfl
@[simp] theorem State.modPort_slots (s : State) (p : Port) (g : PortUnit → PortUnit) : (s.modPort p g).slots = s.slots := rfl
@[simp] theorem State.modPort_ports (s : State) (p : Port) (g : PortUnit → PortUnit) : (s.modPort p g).ports = s.ports.set p (g (s.ports.get p)) := rfl
@[simp] theorem State.modPort_settings (s : State) (p : Port) (g : PortUnit → PortUnit) : (s.modPort p g).settings = s.settings := rfl
@[simp] theorem State.modPort_pending (s : State) (p : Port) (g : PortUnit → PortUnit) : (s.modPort p g).pending = s.pending := rfl

/-! ## modReader -/

@[simp] theorem State.modReader_inputs (s : State) (p : Port) (g : Reader → Reader) : (s.modReader p g).inputs = s.inputs := rfl
@[simp] theorem State.modReader_time (s : State) (p : Port) (g : Reader → Reader) : (s.modReader p g).time = s.time := rfl
@[simp] theorem State.modReader_sample (s : State) (p : Port) (g : Reader → Reader) : (s.modReader p g).sample = s.sample := rfl
@[simp] theorem State.modReader_tracker (s : State) (p : Port) (g : Reader → Reader) : (s.modReader p g).tracker = s.tracker := rfl
@[simp] theorem State.modReader_rect (s : State) (p : Port) (g : Reader → Reader) : (s.modReader p g).rect = s.rect := rfl
@[simp] theorem State.modReader_disc (s : State) (p : Port) (g : Reader → Reader) : (s.modReader p g).disc = s.disc := rfl
@[simp] theorem State.modReader_trips (s : State) (p : Port) (g : Reader → Reader) : (s.modReader p g).trips = s.trips := rfl
@[simp] theorem State.modReader_ctx (s : State) (p : Port) (g : Reader → Reader) : (s.modReader p g).ctx = s.ctx := rfl
@[simp] theorem State.modReader_lineTest (s : State) (p : Port) (g : Reader → Reader) : (s.modReader p g).lineTest = s.lineTest := rfl
@[simp] theorem State.modReader_sections (s : State) (p : Port) (g : Reader → Reader) : (s.modReader p g).sections = s.sections := rfl
@[simp] theorem State.modReader_startHold (s : State) (p : Port) (g : Reader → Reader) : (s.modReader p g).startHold = s.startHold := rfl
@[simp] theorem State.modReader_links (s : State) (p : Port) (g : Reader → Reader) : (s.modReader p g).links = s.links := rfl
@[simp] theorem State.modReader_journal (s : State) (p : Port) (g : Reader → Reader) : (s.modReader p g).journal = s.journal := rfl
@[simp] theorem State.modReader_readers (s : State) (p : Port) (g : Reader → Reader) : (s.modReader p g).readers = s.readers.set p (g (s.readers.get p)) := rfl
@[simp] theorem State.modReader_slots (s : State) (p : Port) (g : Reader → Reader) : (s.modReader p g).slots = s.slots := rfl
@[simp] theorem State.modReader_ports (s : State) (p : Port) (g : Reader → Reader) : (s.modReader p g).ports = s.ports := rfl
@[simp] theorem State.modReader_settings (s : State) (p : Port) (g : Reader → Reader) : (s.modReader p g).settings = s.settings := rfl
@[simp] theorem State.modReader_pending (s : State) (p : Port) (g : Reader → Reader) : (s.modReader p g).pending = s.pending := rfl

/-! ## modSlot -/

@[simp] theorem State.modSlot_inputs (s : State) (k : Fin 8) (g : Slot → Slot) : (s.modSlot k g).inputs = s.inputs := rfl
@[simp] theorem State.modSlot_time (s : State) (k : Fin 8) (g : Slot → Slot) : (s.modSlot k g).time = s.time := rfl
@[simp] theorem State.modSlot_sample (s : State) (k : Fin 8) (g : Slot → Slot) : (s.modSlot k g).sample = s.sample := rfl
@[simp] theorem State.modSlot_tracker (s : State) (k : Fin 8) (g : Slot → Slot) : (s.modSlot k g).tracker = s.tracker := rfl
@[simp] theorem State.modSlot_rect (s : State) (k : Fin 8) (g : Slot → Slot) : (s.modSlot k g).rect = s.rect := rfl
@[simp] theorem State.modSlot_disc (s : State) (k : Fin 8) (g : Slot → Slot) : (s.modSlot k g).disc = s.disc := rfl
@[simp] theorem State.modSlot_trips (s : State) (k : Fin 8) (g : Slot → Slot) : (s.modSlot k g).trips = s.trips := rfl
@[simp] theorem State.modSlot_ctx (s : State) (k : Fin 8) (g : Slot → Slot) : (s.modSlot k g).ctx = s.ctx := rfl
@[simp] theorem State.modSlot_lineTest (s : State) (k : Fin 8) (g : Slot → Slot) : (s.modSlot k g).lineTest = s.lineTest := rfl
@[simp] theorem State.modSlot_sections (s : State) (k : Fin 8) (g : Slot → Slot) : (s.modSlot k g).sections = s.sections := rfl
@[simp] theorem State.modSlot_startHold (s : State) (k : Fin 8) (g : Slot → Slot) : (s.modSlot k g).startHold = s.startHold := rfl
@[simp] theorem State.modSlot_links (s : State) (k : Fin 8) (g : Slot → Slot) : (s.modSlot k g).links = s.links := rfl
@[simp] theorem State.modSlot_journal (s : State) (k : Fin 8) (g : Slot → Slot) : (s.modSlot k g).journal = s.journal := rfl
@[simp] theorem State.modSlot_readers (s : State) (k : Fin 8) (g : Slot → Slot) : (s.modSlot k g).readers = s.readers := rfl
@[simp] theorem State.modSlot_slots (s : State) (k : Fin 8) (g : Slot → Slot) : (s.modSlot k g).slots = s.slots.set k (g s.slots[k]) := rfl
@[simp] theorem State.modSlot_ports (s : State) (k : Fin 8) (g : Slot → Slot) : (s.modSlot k g).ports = s.ports := rfl
@[simp] theorem State.modSlot_settings (s : State) (k : Fin 8) (g : Slot → Slot) : (s.modSlot k g).settings = s.settings := rfl
@[simp] theorem State.modSlot_pending (s : State) (k : Fin 8) (g : Slot → Slot) : (s.modSlot k g).pending = s.pending := rfl

/-! ## One of each for ports and links -/

@[simp] theorem PerPort.get_set {α : Type} (x : PerPort α) (p q : Port) (a : α) :
    (x.set p a).get q = if p = q then a else x.get q := by cases p <;> cases q <;> rfl

@[simp] theorem PerLink.get_set {α : Type} (x : PerLink α) (l m : Link) (a : α) :
    (x.set l a).get m = if l = m then a else x.get m := by cases l <;> cases m <;> rfl

theorem PerPort.ext_get {α : Type} (x y : PerPort α) (h : ∀ p, x.get p = y.get p) : x = y := by
  cases x; cases y; simpa [PerPort.get] using And.intro (h .s) (h .c)

theorem PerLink.ext_get {α : Type} (x y : PerLink α) (h : ∀ l, x.get l = y.get l) : x = y := by
  cases x; cases y; simpa [PerLink.get] using And.intro (h .u) (h .d)

/-! ## Reading after writing one member -/

theorem State.modCtx_get (s : State) (f h : Feeder) (g : Context → Context) :
    (s.modCtx f g).ctx[h] = if f = h then g s.ctx[f] else s.ctx[h] := by
  simp [Vector.getElem_set, Fin.ext_iff]

theorem State.modDisc_get (s : State) (f h : Feeder) (g : Disc → Disc) :
    (s.modDisc f g).disc[h] = if f = h then g s.disc[f] else s.disc[h] := by
  simp [Vector.getElem_set, Fin.ext_iff]

theorem State.modSection_get (s : State) (f h : Feeder) (g : Section → Section) :
    (s.modSection f g).sections[h] = if f = h then g s.sections[f] else s.sections[h] := by
  simp [Vector.getElem_set, Fin.ext_iff]

theorem State.modGate_get (s : State) (k j : Gate) (g : GateUnit → GateUnit) :
    (s.modGate k g).rect.gates[j] = if k = j then g s.rect.gates[k] else s.rect.gates[j] := by
  simp [Vector.getElem_set, Fin.ext_iff]

theorem State.modSlot_get (s : State) (k j : Fin 8) (g : Slot → Slot) :
    (s.modSlot k g).slots[j] = if k = j then g s.slots[k] else s.slots[j] := by
  simp [Vector.getElem_set, Fin.ext_iff]

theorem State.modLink_get (s : State) (l m : Link) (g : LinkUnit → LinkUnit) :
    (s.modLink l g).links.get m = if l = m then g (s.links.get l) else s.links.get m := by
  simp

theorem State.modPort_get (s : State) (p q : Port) (g : PortUnit → PortUnit) :
    (s.modPort p g).ports.get q = if p = q then g (s.ports.get p) else s.ports.get q := by
  simp

theorem State.modReader_get (s : State) (p q : Port) (g : Reader → Reader) :
    (s.modReader p g).readers.get q = if p = q then g (s.readers.get p) else s.readers.get q := by
  simp

/-- An index update of a link as the update of its link. -/
theorem State.modIndex_eq (s : State) (l : Link) (i : Index) (g : IndexUnit → IndexUnit) :
    s.modIndex l i g = s.modLink l fun k => { k with idx := k.idx.set i (g k.idx[i]) } := rfl

end Sys2Proof.Machine
end

