-- ==== Sys2Proof/Laws/Frames.lean ====
section
/-! SUPPORT. What the shared operations leave unchanged. Each relation says that two states agree on everything but the
parts it names; one lemma per operation says that the operation stays inside its relation, and provers cite it instead
of unfolding the operation. -/

namespace Sys2Proof.Machine

/-- Two states agree on everything but the journal, the readers, the slots and the latch words. -/
structure State.JournalOnly (s t : State) : Prop where
  inputs : t.inputs = s.inputs
  time : t.time = s.time
  sample : t.sample = s.sample
  tracker : t.tracker = s.tracker
  rect : t.rect = s.rect
  disc : t.disc = s.disc
  ctx : t.ctx = s.ctx
  lineTest : t.lineTest = s.lineTest
  sections : t.sections = s.sections
  startHold : t.startHold = s.startHold
  links : t.links = s.links
  trips : t.trips = s.trips
  settings : t.settings = s.settings
  pending : t.pending = s.pending
  ports : ∀ p, (t.ports.get p).phase = (s.ports.get p).phase ∧ (t.ports.get p).buffer = (s.ports.get p).buffer
    ∧ (t.ports.get p).frameError = (s.ports.get p).frameError ∧ (t.ports.get p).shown = (s.ports.get p).shown
    ∧ (t.ports.get p).response = (s.ports.get p).response

theorem State.JournalOnly.refl (s : State) : s.JournalOnly s := by constructor <;> simp

theorem State.JournalOnly.trans {a b c : State} (h : a.JournalOnly b) (k : b.JournalOnly c) : a.JournalOnly c := by
  constructor
  case ports => intro p; have := h.ports p; have := k.ports p; simp_all
  all_goals first
    | exact k.inputs.trans h.inputs
    | exact k.time.trans h.time
    | exact k.sample.trans h.sample
    | exact k.tracker.trans h.tracker
    | exact k.rect.trans h.rect
    | exact k.disc.trans h.disc
    | exact k.ctx.trans h.ctx
    | exact k.lineTest.trans h.lineTest
    | exact k.sections.trans h.sections
    | exact k.startHold.trans h.startHold
    | exact k.links.trans h.links
    | exact k.trips.trans h.trips
    | exact k.settings.trans h.settings
    | exact k.pending.trans h.pending

theorem State.JournalOnly.foldl {α : Type} {op : State → α → State} (h : ∀ (s : State) (x : α), s.JournalOnly (op s x)) (xs : List α) (s : State) :
    s.JournalOnly (xs.foldl op s) := by
  induction xs generalizing s with
  | nil => exact .refl s
  | cons x xs ih => exact (h s x).trans (ih _)

/-- Two states agree on everything but the contexts, the line test unit, the links, and what `JournalOnly` lets change. -/
structure State.SequencerOnly (s t : State) : Prop where
  inputs : t.inputs = s.inputs
  time : t.time = s.time
  sample : t.sample = s.sample
  tracker : t.tracker = s.tracker
  rect : t.rect = s.rect
  disc : t.disc = s.disc
  sections : t.sections = s.sections
  startHold : t.startHold = s.startHold
  trips : t.trips = s.trips
  settings : t.settings = s.settings
  pending : t.pending = s.pending
  ports : ∀ p, (t.ports.get p).phase = (s.ports.get p).phase ∧ (t.ports.get p).buffer = (s.ports.get p).buffer
    ∧ (t.ports.get p).frameError = (s.ports.get p).frameError ∧ (t.ports.get p).shown = (s.ports.get p).shown
    ∧ (t.ports.get p).response = (s.ports.get p).response

theorem State.SequencerOnly.refl (s : State) : s.SequencerOnly s := by constructor <;> simp

theorem State.SequencerOnly.trans {a b c : State} (h : a.SequencerOnly b) (k : b.SequencerOnly c) : a.SequencerOnly c := by
  constructor
  case ports => intro p; have := h.ports p; have := k.ports p; simp_all
  all_goals first
    | exact k.inputs.trans h.inputs
    | exact k.time.trans h.time
    | exact k.sample.trans h.sample
    | exact k.tracker.trans h.tracker
    | exact k.rect.trans h.rect
    | exact k.disc.trans h.disc
    | exact k.sections.trans h.sections
    | exact k.startHold.trans h.startHold
    | exact k.trips.trans h.trips
    | exact k.settings.trans h.settings
    | exact k.pending.trans h.pending

theorem State.SequencerOnly.foldl {α : Type} {op : State → α → State} (h : ∀ (s : State) (x : α), s.SequencerOnly (op s x)) (xs : List α) (s : State) :
    s.SequencerOnly (xs.foldl op s) := by
  induction xs generalizing s with
  | nil => exact .refl s
  | cons x xs ih => exact (h s x).trans (ih _)

/-- Two states agree on everything but the rectifier controller, and what `JournalOnly` lets change. -/
structure State.RectifierOnly (s t : State) : Prop where
  inputs : t.inputs = s.inputs
  time : t.time = s.time
  sample : t.sample = s.sample
  tracker : t.tracker = s.tracker
  disc : t.disc = s.disc
  ctx : t.ctx = s.ctx
  lineTest : t.lineTest = s.lineTest
  sections : t.sections = s.sections
  startHold : t.startHold = s.startHold
  links : t.links = s.links
  trips : t.trips = s.trips
  settings : t.settings = s.settings
  pending : t.pending = s.pending
  ports : ∀ p, (t.ports.get p).phase = (s.ports.get p).phase ∧ (t.ports.get p).buffer = (s.ports.get p).buffer
    ∧ (t.ports.get p).frameError = (s.ports.get p).frameError ∧ (t.ports.get p).shown = (s.ports.get p).shown
    ∧ (t.ports.get p).response = (s.ports.get p).response

theorem State.RectifierOnly.refl (s : State) : s.RectifierOnly s := by constructor <;> simp

theorem State.RectifierOnly.trans {a b c : State} (h : a.RectifierOnly b) (k : b.RectifierOnly c) : a.RectifierOnly c := by
  constructor
  case ports => intro p; have := h.ports p; have := k.ports p; simp_all
  all_goals first
    | exact k.inputs.trans h.inputs
    | exact k.time.trans h.time
    | exact k.sample.trans h.sample
    | exact k.tracker.trans h.tracker
    | exact k.disc.trans h.disc
    | exact k.ctx.trans h.ctx
    | exact k.lineTest.trans h.lineTest
    | exact k.sections.trans h.sections
    | exact k.startHold.trans h.startHold
    | exact k.links.trans h.links
    | exact k.trips.trans h.trips
    | exact k.settings.trans h.settings
    | exact k.pending.trans h.pending

theorem State.RectifierOnly.foldl {α : Type} {op : State → α → State} (h : ∀ (s : State) (x : α), s.RectifierOnly (op s x)) (xs : List α) (s : State) :
    s.RectifierOnly (xs.foldl op s) := by
  induction xs generalizing s with
  | nil => exact .refl s
  | cons x xs ih => exact (h s x).trans (ih _)

/-- Two states agree on everything but the sections, the discriminator, the rectifier controller, and what `SequencerOnly` lets change. -/
structure State.SwitchOnly (s t : State) : Prop where
  inputs : t.inputs = s.inputs
  time : t.time = s.time
  sample : t.sample = s.sample
  tracker : t.tracker = s.tracker
  startHold : t.startHold = s.startHold
  trips : t.trips = s.trips
  settings : t.settings = s.settings
  pending : t.pending = s.pending
  ports : ∀ p, (t.ports.get p).phase = (s.ports.get p).phase ∧ (t.ports.get p).buffer = (s.ports.get p).buffer
    ∧ (t.ports.get p).frameError = (s.ports.get p).frameError ∧ (t.ports.get p).shown = (s.ports.get p).shown
    ∧ (t.ports.get p).response = (s.ports.get p).response

theorem State.SwitchOnly.refl (s : State) : s.SwitchOnly s := by constructor <;> simp

theorem State.SwitchOnly.trans {a b c : State} (h : a.SwitchOnly b) (k : b.SwitchOnly c) : a.SwitchOnly c := by
  constructor
  case ports => intro p; have := h.ports p; have := k.ports p; simp_all
  all_goals first
    | exact k.inputs.trans h.inputs
    | exact k.time.trans h.time
    | exact k.sample.trans h.sample
    | exact k.tracker.trans h.tracker
    | exact k.startHold.trans h.startHold
    | exact k.trips.trans h.trips
    | exact k.settings.trans h.settings
    | exact k.pending.trans h.pending

theorem State.SwitchOnly.foldl {α : Type} {op : State → α → State} (h : ∀ (s : State) (x : α), s.SwitchOnly (op s x)) (xs : List α) (s : State) :
    s.SwitchOnly (xs.foldl op s) := by
  induction xs generalizing s with
  | nil => exact .refl s
  | cons x xs ih => exact (h s x).trans (ih _)

theorem State.JournalOnly.toSequencerOnly {s t : State} (h : s.JournalOnly t) : s.SequencerOnly t where
  inputs := h.inputs
  time := h.time
  sample := h.sample
  tracker := h.tracker
  rect := h.rect
  disc := h.disc
  sections := h.sections
  startHold := h.startHold
  trips := h.trips
  settings := h.settings
  pending := h.pending
  ports := h.ports

theorem State.JournalOnly.toRectifierOnly {s t : State} (h : s.JournalOnly t) : s.RectifierOnly t where
  inputs := h.inputs
  time := h.time
  sample := h.sample
  tracker := h.tracker
  disc := h.disc
  ctx := h.ctx
  lineTest := h.lineTest
  sections := h.sections
  startHold := h.startHold
  links := h.links
  trips := h.trips
  settings := h.settings
  pending := h.pending
  ports := h.ports

theorem State.SequencerOnly.toSwitchOnly {s t : State} (h : s.SequencerOnly t) : s.SwitchOnly t where
  inputs := h.inputs
  time := h.time
  sample := h.sample
  tracker := h.tracker
  startHold := h.startHold
  trips := h.trips
  settings := h.settings
  pending := h.pending
  ports := h.ports

theorem State.RectifierOnly.toSwitchOnly {s t : State} (h : s.RectifierOnly t) : s.SwitchOnly t where
  inputs := h.inputs
  time := h.time
  sample := h.sample
  tracker := h.tracker
  startHold := h.startHold
  trips := h.trips
  settings := h.settings
  pending := h.pending
  ports := h.ports

/-! ## The journal and the latches -/

theorem State.latch_only (s : State) (p : Port) (b : Latch) : s.JournalOnly (s.latch p b) := by
  constructor <;> simp only [State.latch, State.modPort_inputs, State.modPort_time, State.modPort_sample,
    State.modPort_tracker, State.modPort_rect, State.modPort_disc, State.modPort_ctx, State.modPort_lineTest,
    State.modPort_sections, State.modPort_startHold, State.modPort_links, State.modPort_trips, State.modPort_settings,
    State.modPort_pending]
  intro q; rw [State.modPort_get]; split <;> simp_all

theorem State.onset_only (s : State) (b : Latch) : s.JournalOnly (s.onset b) :=
  (s.latch_only .s b).trans (State.latch_only _ .c b)

theorem State.onsetIf_only (s : State) (c : Bool) (b : Latch) : s.JournalOnly (s.onsetIf c b) := by
  unfold State.onsetIf; split
  · exact s.onset_only b
  · exact .refl s

theorem State.modSlot_only (s : State) (k : Fin 8) (g : Slot → Slot) : s.JournalOnly (s.modSlot k g) := by
  constructor <;> simp

theorem State.modReader_only (s : State) (p : Port) (g : Reader → Reader) : s.JournalOnly (s.modReader p g) := by
  constructor <;> simp

theorem State.journal_only (s : State) (j : Journal) : s.JournalOnly { s with journal := j } := by
  constructor <;> simp

theorem State.freeRef_only (s : State) (e : Entry) : s.JournalOnly (s.freeRef e) := by
  unfold State.freeRef; split
  · exact s.modSlot_only _ _
  · exact .refl s

theorem State.charge_only (s : State) (p : Port) (n : Stamp) : s.JournalOnly (s.charge p n) := by
  unfold State.charge; split
  · exact (s.modReader_only p _).trans (State.latch_only _ p _)
  · exact .refl s

theorem State.overflow_only (s : State) : s.JournalOnly s.overflow := by
  unfold State.overflow; split
  · exact .refl s
  · exact (((s.journal_only _).trans (State.freeRef_only _ _)).trans (State.charge_only _ .s _)).trans
      (State.charge_only _ .c _)

theorem State.join_only (s : State) (k : Kind) (x : Subject) (d : Detail) (v : Int) (r : Option (Fin 8)) :
    s.JournalOnly (s.join k x d v r) := s.journal_only _

theorem State.appendRef_only (s : State) (k : Kind) (x : Subject) (d : Detail) (v : Int) (r : Option (Fin 8)) :
    s.JournalOnly (s.appendRef k x d v r) := by
  unfold State.appendRef; split
  · exact s.join_only _ _ _ _ _
  · exact s.overflow_only.trans (State.join_only _ _ _ _ _ _)

theorem State.append_only (s : State) (k : Kind) (x : Subject) (d : Detail) (v : Int) :
    s.JournalOnly (s.append k x d v) := s.appendRef_only k x d v none

theorem State.retireFrom_only (s : State) (es : List Entry) : s.JournalOnly (s.retireFrom es) := by
  induction es generalizing s with
  | nil => exact s.journal_only _
  | cons e es ih =>
    unfold State.retireFrom; split
    · exact (s.freeRef_only e).trans (ih _)
    · exact s.journal_only _

theorem State.retire_only (s : State) : s.JournalOnly s.retire := s.retireFrom_only _

/-! ## The recorder -/

theorem State.sealTruncated_only (s : State) (k : Fin 8) : s.JournalOnly (s.sealTruncated k) :=
  (s.modSlot_only k _).trans (State.retire_only _)

theorem State.sealAll_only (s : State) : s.JournalOnly s.sealAll := by
  apply State.JournalOnly.foldl
  intro s k; split
  · exact s.sealTruncated_only k
  · exact .refl s

theorem State.capture_only (s : State) (k : Fin 8) (f : Feeder) (c : TripCause) (t : Byte) :
    s.JournalOnly (s.capture k f c t) := by
  unfold State.capture; split
  · exact (s.modSlot_only k _).trans (State.sealTruncated_only _ k)
  · dsimp only; split
    · exact s.modSlot_only k _
    · exact (s.modSlot_only k _).trans (State.retire_only _)

theorem State.sealSame_only (s : State) (f : Feeder) : s.JournalOnly (s.sealSame f) := by
  unfold State.sealSame; split
  · exact s.sealTruncated_only _
  · exact .refl s

theorem State.requestSlot_only (s : State) (f : Feeder) (c : TripCause) (t : Byte) :
    s.JournalOnly (s.requestSlot f c t).2 := by
  unfold State.requestSlot; dsimp only; split
  · exact (s.sealSame_only f).trans (State.append_only _ _ _ _ _)
  · exact (((s.sealSame_only f).trans (State.modSlot_only _ _ _)).trans (State.onsetIf_only _ _ _)).trans
      (State.capture_only _ _ _ _ _)

theorem State.fillSlot_only (s : State) (k : Fin 8) (r : RingRow) : s.JournalOnly (s.fillSlot k r) := by
  unfold State.fillSlot
  extract_lets t
  have ht : s.JournalOnly t := s.modSlot_only k _
  split
  · exact ht
  · exact (ht.trans (State.modSlot_only _ k _)).trans (State.retire_only _)

theorem State.fillSlots_only (s : State) (r : RingRow) : s.JournalOnly (s.fillSlots r) := by
  apply State.JournalOnly.foldl
  intro s k; split
  · exact s.fillSlot_only k r
  · exact .refl s

/-! ## The rectifier controller -/

theorem State.modRect_only (s : State) (g : Rectifier → Rectifier) : s.RectifierOnly (s.modRect g) := by
  constructor <;> simp

theorem State.rectEntry_only (s : State) (n : RectNote) (b : Option Gate) : s.JournalOnly (s.rectEntry n b) := by
  unfold State.rectEntry; split <;> exact s.append_only _ _ _ _

theorem State.startUp_only (s : State) (n : RectNote) : s.RectifierOnly (s.startUp n) :=
  (s.modRect_only _).trans (State.rectEntry_only _ _ _).toRectifierOnly

theorem State.tryRestart_only (s : State) : s.RectifierOnly s.tryRestart := by
  unfold State.tryRestart; split
  · exact s.startUp_only _
  · exact .refl s

theorem State.enterStopped_only (s : State) (n : RectNote) : s.RectifierOnly (s.enterStopped n) :=
  (s.modRect_only _).trans (State.rectEntry_only _ _ _).toRectifierOnly

theorem State.enterBlocked_only (s : State) (c : RectCause) (b : Option Gate) : s.RectifierOnly (s.enterBlocked c b) :=
  ((s.modRect_only _).trans (State.rectEntry_only _ _ _).toRectifierOnly).trans (State.tryRestart_only _)

theorem State.finishShift_only (s : State) (e : ShiftEnd) (b : Option Gate) : s.RectifierOnly (s.finishShift e b) := by
  unfold State.finishShift; split
  · exact s.enterStopped_only _
  · exact s.enterBlocked_only _ _

theorem State.retime_only (s : State) : s.RectifierOnly s.retime := s.modRect_only _

theorem State.beginShift_only (s : State) (e : ShiftEnd) (b : Option Gate) : s.RectifierOnly (s.beginShift e b) :=
  ((s.modRect_only _).trans (State.retime_only _)).trans (State.rectEntry_only _ _ _).toRectifierOnly

theorem State.shiftTo_only (s : State) (e : ShiftEnd) (b : Option Gate) : s.RectifierOnly (s.shiftTo e b) := by
  unfold State.shiftTo; split
  · exact s.finishShift_only e b
  · exact s.beginShift_only e b

theorem State.replaceCause_only (s : State) (c : RectCause) (b : Option Gate) : s.RectifierOnly (s.replaceCause c b) :=
  (s.modRect_only _).trans (State.rectEntry_only _ _ _).toRectifierOnly

theorem State.replaceEnd_only (s : State) (e : ShiftEnd) (b : Option Gate) : s.RectifierOnly (s.replaceEnd e b) :=
  (s.modRect_only _).trans (State.rectEntry_only _ _ _).toRectifierOnly

theorem State.abortGateTest_only (s : State) : s.RectifierOnly s.abortGateTest :=
  (s.modRect_only _).trans (State.append_only _ _ _ _ _).toRectifierOnly

theorem State.blockRequest_only (s : State) (c : RectCause) (b : Option Gate) : s.RectifierOnly (s.blockRequest c b) := by
  refine State.RectifierOnly.trans ?_ (State.modRect_only _ _)
  unfold State.blockState; split
  · split
    · exact s.enterBlocked_only _ _
    · exact .refl s
  · split
    · exact s.abortGateTest_only.trans (State.enterBlocked_only _ _ _)
    · exact .refl s
  · exact s.shiftTo_only _ _
  · exact s.shiftTo_only _ _
  · split
    · exact s.replaceEnd_only _ _
    · exact .refl s
  · split
    · exact s.replaceCause_only _ _
    · exact .refl s

theorem State.verdicts_only (s : State) : s.RectifierOnly s.verdicts :=
  (s.modRect_only _).trans (State.RectifierOnly.foldl (fun s k => s.blockRequest_only _ (some k)) _ _)

theorem State.scheduleNow_only (s : State) (p : Period) : s.RectifierOnly (s.scheduleNow p) := s.modRect_only _

theorem State.regulate_only (s : State) : s.RectifierOnly s.regulate := by
  unfold State.regulate; split
  · exact s.modRect_only _
  · extract_lets v i alpha t
    have ht : s.RectifierOnly t := s.modRect_only _
    split
    · exact (ht.trans (State.modRect_only _ _)).trans (State.rectEntry_only _ _ _).toRectifierOnly
    · exact ht

theorem State.shiftInstant_only (s : State) (p : Period) : s.RectifierOnly (s.shiftInstant p) := by
  unfold State.shiftInstant; dsimp only; split
  · exact (s.modRect_only _).trans (State.scheduleNow_only _ _)
  · exact (s.modRect_only _).trans (State.finishShift_only _ _ _)

theorem State.instantIn_only (s : State) (w : RectState) (p : Period) : s.RectifierOnly (s.instantIn w p) := by
  unfold State.instantIn; split
  · exact s.shiftInstant_only p
  · split
    · exact s.scheduleNow_only p
    · split
      · exact s.regulate_only.trans (State.scheduleNow_only _ p)
      · exact .refl s

theorem State.takeInstant_only (s : State) (t : Stamp) (p : Int) : s.RectifierOnly (s.takeInstant t p) := by
  unfold State.takeInstant; dsimp only; split
  · exact (((s.modRect_only _).trans (State.verdicts_only _)).trans (State.instantIn_only _ _ _)).trans
      (State.modRect_only _ _)
  · exact (s.modRect_only _).trans (State.modRect_only _ _)

theorem State.noticeState_only (s : State) (st : TrackerState) : s.RectifierOnly (s.noticeState st) := by
  unfold State.noticeState; split
  · refine State.RectifierOnly.trans ?_ (State.modRect_only _ _)
    split
    · exact s.beginShift_only _ _
    · exact .refl s
  · dsimp only; split
    · exact (s.modRect_only _).trans (State.enterBlocked_only _ _ _)
    · split
      · exact (s.modRect_only _).trans (State.finishShift_only _ _ _)
      · exact s.modRect_only _
  · exact s.tryRestart_only
  · exact .refl s

theorem State.notice_only (s : State) (n : Notice) : s.RectifierOnly (s.notice n) := by
  unfold State.notice; dsimp only; split
  · exact (s.noticeState_only _).trans (State.takeInstant_only _ _ _)
  · exact s.noticeState_only _

theorem State.acOpenRect_only (s : State) : s.RectifierOnly s.acOpenRect := by
  unfold State.acOpenRect
  repeat' split
  all_goals first | exact .refl s | exact s.enterStopped_only _ | exact s.enterBlocked_only _ _

theorem State.eoffRect_only (s : State) : s.RectifierOnly s.eoffRect := by
  unfold State.eoffRect
  repeat' split
  all_goals first
    | exact .refl s
    | exact s.enterBlocked_only _ _
    | exact s.replaceCause_only _ _
    | exact s.abortGateTest_only.trans (State.enterStopped_only _ _)

theorem State.addSums_only (s : State) : s.RectifierOnly s.addSums := by
  unfold State.addSums; split
  · exact s.modRect_only _
  · exact .refl s

theorem State.busDifferential_only (s : State) : s.RectifierOnly s.busDifferential.2 := by
  unfold State.busDifferential
  repeat' split
  all_goals first
    | exact .refl s
    | exact s.modRect_only _
    | (dsimp only; repeat' split) <;> first | exact s.modRect_only _ | (dsimp only; exact s.modRect_only _)

theorem State.absorberEdge_only (s b : State) : s.JournalOnly (s.absorberEdge b) := by
  unfold State.absorberEdge; split
  · exact .refl s
  · exact s.append_only _ _ _ _

theorem State.absorber_only (s : State) : s.RectifierOnly s.absorber := by
  unfold State.absorber
  extract_lets h t
  have ht : s.RectifierOnly t := ((s.modRect_only _).trans (State.modRect_only _ _)).trans
    (State.absorberEdge_only _ _).toRectifierOnly
  split
  · exact ht
  · split
    · exact (ht.trans (State.append_only _ _ _ _ _).toRectifierOnly).trans (State.onset_only _ _).toRectifierOnly
    · exact ht.trans (State.append_only _ _ _ _ _).toRectifierOnly

/-! ## The breaker sequencer, the line test unit and the links -/

theorem State.modCtx_only (s : State) (f : Feeder) (g : Context → Context) : s.SequencerOnly (s.modCtx f g) := by
  constructor <;> simp

theorem State.modLine_only (s : State) (g : LineTest → LineTest) : s.SequencerOnly (s.modLine g) := by
  constructor <;> simp

theorem State.modLink_only (s : State) (l : Link) (g : LinkUnit → LinkUnit) : s.SequencerOnly (s.modLink l g) := by
  constructor <;> simp

theorem State.askFor_only (s : State) (f : Feeder) (x : Index → Frame) : s.SequencerOnly (s.askFor f x) := by
  unfold State.askFor; split
  · exact s.modLink_only _ _
  · exact .refl s

theorem State.sendTripReq_only (s : State) (f : Feeder) : s.SequencerOnly (s.sendTripReq f) := by
  unfold State.sendTripReq; split
  · exact .refl s
  · exact ((s.modLink_only _ _).trans (State.modLink_only _ _ _)).trans (State.append_only _ _ _ _ _).toSequencerOnly

theorem State.leaveQueue_only (s : State) (f : Feeder) : s.SequencerOnly (s.leaveQueue f) := s.modLine_only _

theorem State.recordResult_only (s : State) (f : Feeder) (x : LastResult) : s.SequencerOnly (s.recordResult f x) :=
  (s.append_only _ _ _ _).toSequencerOnly.trans (State.modLine_only _ _)

theorem State.abortTest_only (s : State) (f : Feeder) (a : Bool) : s.SequencerOnly (s.abortTest f a) := by
  unfold State.abortTest; split
  · exact (s.modLine_only _).trans (State.recordResult_only _ _ _)
  · exact .refl s

theorem State.undoReclose_only (s : State) (f : Feeder) : s.SequencerOnly (s.undoReclose f) :=
  ((s.modCtx_only f _).trans (State.leaveQueue_only _ f)).trans (State.abortTest_only _ f _)

theorem State.enterLocked_only (s : State) (f : Feeder) (c : LockCause) : s.SequencerOnly (s.enterLocked f c) := by
  unfold State.enterLocked
  extract_lets t u
  have hu : s.SequencerOnly u := (((s.modCtx_only f _).trans (State.leaveQueue_only _ f)).trans
    (State.abortTest_only _ f _)).trans (State.append_only _ _ _ _ _).toSequencerOnly
  split
  · exact hu.trans (State.askFor_only _ _ _)
  · exact hu

theorem State.applyDisposition_only (s : State) (f : Feeder) (d : Disposition) :
    s.SequencerOnly (s.applyDisposition f d) := by
  unfold State.applyDisposition; split
  · exact s.modCtx_only f _
  · exact s.modCtx_only f _
  · exact s.modCtx_only f _
  · split
    · exact s.modCtx_only f _
    · split <;> exact s.enterLocked_only f _
  · exact s.enterLocked_only f _

theorem State.completeTrip_only (s : State) (f : Feeder) : s.SequencerOnly (s.completeTrip f) :=
  ((s.modCtx_only f _).trans (State.append_only _ _ _ _ _).toSequencerOnly).trans (State.applyDisposition_only _ f _)

theorem State.tripEntry_only (s : State) (f : Feeder) (c : TripCause) (v : Int) (t : Byte) :
    s.JournalOnly (s.tripEntry f c v t) := by
  unfold State.tripEntry; split
  · exact .refl s
  · split
    · exact (s.requestSlot_only f c t).trans (State.appendRef_only _ _ _ _ _ _)
    · exact s.append_only _ _ _ _

theorem State.trip_only (s : State) (f : Feeder) (c : TripCause) (d : Disposition) (v : Int) (b : Byte) :
    s.SequencerOnly (s.trip f c d v b) := by
  unfold State.trip
  extract_lets t u w
  have hu : s.SequencerOnly u := (s.modCtx_only f _).trans (State.tripEntry_only _ f c v b).toSequencerOnly
  have hw : s.SequencerOnly w := by
    simp only [w]; split
    · exact hu.trans (State.sendTripReq_only _ f)
    · exact hu
  split
  · exact hw
  · exact hw.trans (State.completeTrip_only _ f)

theorem State.tripRequest_only (s : State) (f : Feeder) (c : TripCause) (d : Disposition) (v : Int) (b : Byte) :
    s.SequencerOnly (s.tripRequest f c d v b) := by
  unfold State.tripRequest; split
  · exact s.trip_only f c d v b
  · exact .refl s

theorem State.protectionTrip_only (s : State) (f : Feeder) (c : TripCause) (v : Int) (b : Byte) (n : Nat) :
    s.SequencerOnly (s.protectionTrip f c v b n) := s.tripRequest_only f c _ v b

theorem State.cancelTo_only (s : State) (f : Feeder) (d : Detail) : s.SequencerOnly (s.cancelTo f d) :=
  (((s.modCtx_only f _).trans (State.leaveQueue_only _ f)).trans
    (State.append_only _ _ _ _ _).toSequencerOnly).trans (State.abortTest_only _ f _)

theorem State.commandedOpen_only (s : State) (f : Feeder) (c : TripCause) : s.SequencerOnly (s.commandedOpen f c) := by
  unfold State.commandedOpen; split
  all_goals first | exact .refl s | exact s.trip_only f _ _ _ _ | exact s.cancelTo_only f _

theorem State.cancel_only (s : State) (f : Feeder) : s.SequencerOnly (s.cancel f) := by
  unfold State.cancel; split
  all_goals first | exact .refl s | exact s.cancelTo_only f _

theorem State.barFeeder_only (s : State) (f : Feeder) (c : TripCause) : s.SequencerOnly (s.barFeeder f c) := by
  unfold State.barFeeder; split
  all_goals first | exact s.commandedOpen_only f _ | exact s.cancel_only f

theorem State.failedAttempt_only (s : State) (f : Feeder) (d : Detail) : s.SequencerOnly (s.failedAttempt f d) := by
  unfold State.failedAttempt
  extract_lets n t
  have ht : s.SequencerOnly t := (s.modCtx_only f _).trans (State.append_only _ _ _ _ _).toSequencerOnly
  split
  · exact (s.append_only _ _ _ _).toSequencerOnly.trans (State.enterLocked_only _ f _)
  · split
    · exact ht.trans (State.enterLocked_only _ f _)
    · split <;> exact ht.trans (State.modCtx_only _ f _)

theorem State.enterClosing_only (s : State) (f : Feeder) : s.SequencerOnly (s.enterClosing f) := s.modCtx_only f _

theorem State.interlockFails_only (s : State) (f : Feeder) : s.SequencerOnly (s.interlockFails f) :=
  (s.modCtx_only f _).trans (State.append_only _ _ _ _ _).toSequencerOnly

theorem State.joinQueue_only (s : State) (f : Feeder) (a : Bool) : s.SequencerOnly (s.joinQueue f a) :=
  (s.modCtx_only f _).trans (State.modLine_only _ _)

theorem State.deadTimeEnd_only (s : State) (f : Feeder) : s.SequencerOnly (s.deadTimeEnd f) := by
  unfold State.deadTimeEnd; split
  · exact s.joinQueue_only f _
  · exact s.interlockFails_only f

theorem State.coolNotice_only (s : State) (f : Feeder) : s.SequencerOnly (s.coolNotice f) := by
  unfold State.coolNotice; split
  · exact s.deadTimeEnd_only f
  · exact .refl s

theorem State.lockoutDemand_only (s : State) (f : Feeder) (c : LockCause) : s.SequencerOnly (s.lockoutDemand f c) := by
  unfold State.lockoutDemand
  repeat' split
  all_goals first | exact .refl s | exact s.enterLocked_only f _ | exact s.modCtx_only f _

theorem State.eoffFeeder_only (s : State) (f : Feeder) : s.SequencerOnly (s.eoffFeeder f) := by
  unfold State.eoffFeeder; split
  all_goals first | exact .refl s | exact s.trip_only f _ _ _ _ | exact s.enterLocked_only f _ | exact s.modCtx_only f _

theorem State.lineFails_only (s : State) (f : Feeder) : s.SequencerOnly (s.lineFails f) := by
  unfold State.lineFails; split
  · exact s.failedAttempt_only f _
  · exact s.modCtx_only f _

theorem State.takeHead_only (s : State) (f : Feeder) : s.SequencerOnly (s.takeHead f) := by
  unfold State.takeHead
  dsimp only
  repeat' split
  all_goals first
    | exact s.interlockFails_only f
    | exact (s.recordResult_only f _).trans (State.lineFails_only _ f)
    | exact (s.recordResult_only f _).trans (State.enterClosing_only _ f)
    | exact (s.modCtx_only f _).trans (State.modLine_only _ _)

theorem State.takeHeads_only (n : Nat) (s : State) : s.SequencerOnly (s.takeHeads n) := by
  induction n generalizing s with
  | zero => exact .refl s
  | succ n ih =>
    unfold State.takeHeads; split
    · exact .refl s
    · split
      · exact .refl s
      · exact ((s.modLine_only _).trans (State.takeHead_only _ _)).trans (ih _)

theorem State.settle_only (s : State) : s.SequencerOnly s.settle := State.takeHeads_only _ s

/-- With nobody waiting, or a test under way, the line test unit takes no head (06 R105). -/
theorem State.settle_of_idle (s : State) (h : s.lineTest.queue = [] ∨ s.lineTest.tested.isSome = true) :
    s.settle = s := by
  rcases h with h | h
  · simp [State.settle, h, State.takeHeads]
  · cases hq : s.lineTest.queue with
    | nil => simp [State.settle, hq, State.takeHeads]
    | cons f q => simp [State.settle, hq, State.takeHeads, h]

theorem State.endTest_only (s : State) (f : Feeder) : s.SequencerOnly (s.endTest f) := by
  unfold State.endTest
  extract_lets a b v
  split
  rename_i r x hr
  dsimp only
  repeat' split
  all_goals first
    | exact ((s.modLine_only _).trans (State.recordResult_only _ f _)).trans (State.enterClosing_only _ f)
    | exact ((s.modLine_only _).trans (State.recordResult_only _ f _)).trans (State.interlockFails_only _ f)
    | exact ((s.modLine_only _).trans (State.recordResult_only _ f _)).trans (State.lineFails_only _ f)

/-! ## The discriminator -/

theorem State.evalEntries_only (s : State) (f : Feeder) (es : List (Kind × Detail × Int)) :
    s.JournalOnly (s.evalEntries f es) := by
  apply State.JournalOnly.foldl
  intro s x
  exact s.append_only _ _ _ _

/-- Handing over a request adds it at the end of those on their way, and changes nothing else. -/
theorem State.handOver_eq (s b : State) (f : Feeder) (call : Option (TripCause × Int)) :
    s.handOver b f call = s.modTrips fun q =>
      { q with calls := q.calls ++ (call.map fun x => ⟨f, x.1, x.2, s.newestSeq, b.disc[f].blank⟩).toList } := by
  cases call <;> simp [State.handOver, State.modTrips]

/-- An evaluation changes the items of its feeder, hands over its request, and changes what the sequencer does on the cool
notice. -/
theorem State.evaluate_only (s : State) (f : Feeder) (mark : Bool) :
    ∃ t, (s.modDisc f fun _ => (s.evaluation f mark).disc.close (s.seen f mark)).SequencerOnly t
      ∧ s.evaluate f mark = t.handOver s f (s.evaluation f mark).call := by
  refine ⟨_, ?_, rfl⟩
  have ht := (State.evalEntries_only (s.modDisc f fun _ => (s.evaluation f mark).disc.close (s.seen f mark)) f
    (s.evaluation f mark).entries).toSequencerOnly
  split
  · exact ht.trans (State.coolNotice_only _ f)
  · exact ht

/-! ## The trip requests on their way -/

theorem State.takeTrip_only (s : State) (r : TripCall) : s.SequencerOnly (s.takeTrip r) :=
  s.protectionTrip_only r.feeder r.cause r.value r.trigger r.blank

/-- "the breaker sequencer ignores it": a request that finds its feeder out of CLOSED changes nothing (04 R55, 05 R80). -/
theorem State.takeTrip_of_not_closed (s : State) (r : TripCall) (h : s.fstate r.feeder ≠ .closed) : s.takeTrip r = s := by
  simp [State.takeTrip, State.protectionTrip, State.tripRequest, h]

/-- With no choice left, a request is taken. -/
theorem State.offerTrip_of_nil (s : State) (r : TripCall) (h : s.trips.late = []) : s.offerTrip r = s.takeTrip r := by
  simp [State.offerTrip, h]

/-- What offering a request leaves alone: everything but the requests on their way, and what the sequencer changes. -/
theorem State.offerTrip_only (s : State) (r : TripCall) :
    ∃ q, (s.modTrips fun _ => q).SequencerOnly (s.offerTrip r) := by
  unfold State.offerTrip
  split
  · exact ⟨_, .refl _⟩
  · exact ⟨_, State.takeTrip_only _ r⟩
  · exact ⟨s.trips, s.takeTrip_only r⟩

/-- With no request on its way, there is nothing to offer. -/
theorem State.offerTrips_of_nil (s : State) (h : s.trips.calls = []) : s.offerTrips = s := by
  rcases s with ⟨_, _, _, _, _, _, ⟨_, _⟩⟩
  simp_all [State.offerTrips, State.modTrips]

/-- What offering the requests leaves alone. -/
theorem State.offerTrips_only (s : State) : ∃ q, (s.modTrips fun _ => q).SequencerOnly s.offerTrips := by
  suffices h : ∀ (rs : List TripCall) (t : State), ∃ q, (t.modTrips fun _ => q).SequencerOnly (rs.foldl State.offerTrip t) from
    h s.trips.calls (s.modTrips fun q => { q with calls := [] })
  intro rs
  induction rs with
  | nil => exact fun t => ⟨t.trips, .refl t⟩
  | cons r rs ih =>
    intro t
    obtain ⟨p, hp⟩ := t.offerTrip_only r
    obtain ⟨q, hq⟩ := ih (t.offerTrip r)
    refine ⟨q, State.SequencerOnly.trans ?_ hq⟩
    constructor <;> simp [hp.inputs, hp.time, hp.sample, hp.tracker, hp.rect, hp.disc, hp.sections, hp.startHold,
      hp.settings, hp.pending]
    simpa using hp.ports

end Sys2Proof.Machine
end

