-- ==== Sys2Proof/Tests/Slice0.lean ====
section
/-! SUPPORT. Tests on fixed values: the well-formedness checks, the layouts, worked cases of the spec, and a witness for
every hypothesis of the statements. -/

namespace Sys2Proof.Tests

open Sys2Proof.Machine

/-! ## Helpers -/

/-- The answer is a next state with a property. -/
def post (o : Answer) (test : State → Bool) : Bool :=
  match o with
  | .next t => test t
  | .fault _ => false
  | .refused _ => false

/-- The bytes of a set of sequence number 7 in which every channel reads 100. -/
def plainSet : List Byte := 7 :: (List.replicate 16 [(0 : Byte), 100]).flatten

/-- Reset, with measurement LIVE. -/
def live : State := { State.reset with sample := { State.reset.sample with state := .live, watchdog := some 9 } }

/-- A state, with the watchdog run out. -/
def watchdogOut (s : State) : State := s.modSample fun u => { u with watchdog := some 0 }

/-- Reset, with one command waiting. -/
def queued (c : Instr) : State := { State.reset with pending := [c] }

/-- Reset, with feeder 1 in a state. -/
def feederIn (x : FeederState) : State := State.reset.modCtx 0 fun c => { c with state := x }

/-- Section 1 mapped to link U with index 1 and role LEAD, and the settings that say so. -/
def mapped : State :=
  let st := (State.reset.settings.write (.feeder 0 21) 1).write (.feeder 0 22) 1
  ({ State.reset with settings := st } : State).modSection 0 fun x =>
    { x with mapping := st.mapping 0, coord := .uncoordinated }

/-! ## Operands that the checks refuse -/

theorem test_wf_refuses_summary_count_five :
    Instr.wellFormed (.status .u (Vector.replicate 4 ⟨true, .lead, false, false, 5⟩)) = false := by decide

theorem test_wf_refuses_block_set_of_six : Instr.wellFormed (.blockSet .u 0 [1, 2, 3, 4, 5, 6]) = false := by decide

theorem test_wf_refuses_rectifier_as_feeder : Instr.wellFormed (.resetLockoutFeeder .s 0) = false := by decide

theorem test_wf_refuses_known_code_as_unknown : Instr.wellFormed (.unknownCommand .s 0x20) = false := by decide

/-! ## Layouts (08 R136; 11.3; 11.4) -/

theorem test_crc_of_nine_bytes : crc16 [0x31, 0x32, 0x33, 0x34, 0x35, 0x36, 0x37, 0x38, 0x39] = 0x29B1 := by
  decide +kernel

theorem test_trip_ack_has_five_bytes : (encodeFrame (.tripAck 1 18)).take 3 = [0x03, 0x01, 0x12]
    ∧ (encodeFrame (.tripAck 1 18)).length = 5 := by decide

theorem test_status_frame_is_read_back :
    judgeFrame ⟨false, encodeFrame (.status (Vector.replicate 4 ⟨true, .follow, true, false, 4⟩))⟩
      = some (.status (Vector.replicate 4 ⟨true, .follow, true, false, 4⟩)) := by decide +kernel

theorem test_bit_seven_of_a_summary_is_disregarded :
    judgeFrame ⟨false, withCheck [0x01, 0x81, 0x80, 0x00, 0x40]⟩
      = some (.status #v[⟨true, .lead, false, false, 0⟩, ⟨false, .lead, false, false, 0⟩,
          ⟨false, .lead, false, false, 0⟩, ⟨false, .lead, false, false, 4⟩]) := by decide +kernel

theorem test_bad_receptions :
    judgeFrame ⟨false, withCheck [0x09, 0x00]⟩ = none ∧ judgeFrame ⟨false, withCheck [0x04, 0x04]⟩ = none
      ∧ judgeFrame ⟨false, withCheck [0x04, 0x00, 0x00]⟩ = none ∧ judgeFrame ⟨false, [0x04, 0x00, 0x00, 0x00]⟩ = none
      ∧ judgeFrame ⟨false, withCheck [0x01, 0x50, 0x00, 0x00, 0x00]⟩ = none
      ∧ judgeFrame ⟨false, withCheck [0x08, 0x00, 0x01]⟩ = none := by decide +kernel

theorem test_write_setting_request : decodeRequest .s [0x40, 31, 0xFF, 0xFF, 0xFF, 0xFE]
    = some (.writeSetting .s 31 (-2)) := by decide

theorem test_place_block_request : decodeRequest .c [0x32, 2, 0x10, 0x15, 1] = some (.placeBlock .c 2 4117 1) := by
  decide

theorem test_trip_entry_is_nineteen_bytes :
    (⟨40, 7, .trip, .feeder 1, .tripCause .ror, -2, some 3⟩ : Entry).bytes
      = [0, 0, 0, 40, 0, 0, 0, 7, 1, 0, 1, 2, 0, 2, 0xFF, 0xFF, 0xFF, 0xFE, 3] := by decide

/-! ## Worked cases -/

theorem test_conditioning : condition 0 32767 = some 20000 ∧ condition 12 (-32767) = some 0
    ∧ condition 5 (-32768) = none ∧ condition 15 20001 = some 20000 ∧ condition 6 1999 = some 1999 := by decide

theorem test_first_correction_of_the_worked_acquisition :
    (State.reset.modTracker fun k => { k with period := some 200000 }).correction 200401 = 200050 := by decide

theorem test_line_estimate : estimate 780 40 1200 = 64 ∧ estimate 780 25 1200 = 39 := by decide

theorem test_cross_permits_announce_once :
    (State.reset.modSection 1 fun x => { x with blocks := [⟨.c, 4117, false⟩, ⟨.s, 9, true⟩, ⟨.s, 4117, false⟩] }).announced
      1 = [9, 4117] := by decide

theorem test_five_permits_keep_the_four_lowest :
    ((State.reset.replacePeers 4 [14, 0, 12, 11, 13]).sections[(4 : Feeder)]).peers = [0, 11, 12, 13]
      ∧ ((State.reset.replacePeers 4 [14, 0, 12, 11, 13]).sections[(4 : Feeder)]).overflow = true := by decide

theorem test_close_on_hold_is_refused :
    post (step (queued (.closeFeeder .s 3))) (fun t => t.ports.s.response = [7] && t.ctx = State.reset.ctx) = true := by
  decide

theorem test_release_from_the_other_port_is_refused :
    post (step (queued (.releaseHold .c))) (fun t => t.ports.c.response = [6] && t.startHold) = true := by
  decide

theorem test_release_clears_the_hold :
    post (step (queued (.releaseHold .s))) (fun t =>
      !t.startHold && t.ports.s.response = [1] && t.journal.entries.length = 2) = true := by decide

theorem test_write_is_limited_and_latched :
    post (step (queued (.writeSetting .s 30 9))) (fun t =>
      t.ports.s.response = [2, 0, 0, 0, 20] && t.g .tripTimeMax = 20 && t.ports.c.latches = 0x0A07) = true := by
  decide

theorem test_block_on_a_closed_feeder_waits :
    post (step { (feederIn .closed) with
      inputs := { Inputs.quiet with breaker := Inputs.quiet.breaker.set 0 true }, pending := [.placeBlock .c 1 4117 1] })
      (fun t => t.fstate 0 = .tripping && t.ports.c.response = [1, 1]) = true := by decide

theorem test_status_is_ignored_in_the_silence :
    post (step (queued (.status .u (Vector.replicate 4 ⟨true, .follow, false, false, 0⟩)))) (fun t =>
      t.links.u.state = .down && t.links.u.ignored = 1) = true := by decide

theorem test_set_of_wrong_length_counts :
    post (step (queued (.sampleSetArrival [1, 2, 3]))) (fun t => t.sample.setErrors = 1) = true := by decide

theorem test_reset_status_byte : State.reset.statusByte .s = 0xD8 ∧ State.reset.statusByte .c = 0xC8 := by
  decide

/-- Reset, LIVE, with feeder 1 CLOSED on a current that meets inst_level at the second set, its old record FILLING. -/
def recording : State :=
  let c := live.modCtx 0 fun c => { c with state := .closed }
  let d := (c.modDisc 0 fun d => { d with instRun := 1 }).modSample fun u => { u with expect := some 7 }
  let j := (d.modSlot 0 fun x => { x with state := .filling, trigger := 6 }).appendRef .trip (.feeder 0)
    (.tripCause .inst) 0 (some 0)
  { j with inputs := { Inputs.quiet with breaker := Inputs.quiet.breaker.set 0 true } }

/-- A set of sequence number 7 in which i_1 reads the greatest value. -/
def faultSet : List Byte := 7 :: 0x4E :: 0x20 :: (List.replicate 15 [(0 : Byte), 100]).flatten

theorem test_capture_comes_after_the_recorder_step :
    post (step { recording with pending := [.sampleSetArrival faultSet] }) (fun t =>
      t.fstate 0 = .tripping && t.slots[(0 : Fin 8)].pairs.length = 1 && t.slots[(0 : Fin 8)].state = .sealed
        && t.slots[(1 : Fin 8)].pairs.length = 1 && t.slots[(1 : Fin 8)].trigger = 7) = true := by decide +kernel

/-- The same, with the request that the next set calls for left on its way at first. -/
def behind : State := recording.modTrips fun q => { q with late := [true] }

theorem test_request_stays_on_its_way :
    post (exec (.sampleSetArrival faultSet) behind) (fun t =>
      t.fstate 0 = .closed && t.disc[(0 : Feeder)].instOps = 1 && t.trips = ⟨[⟨0, .inst, 20000, 7, 0⟩], []⟩
        && post (step t) fun u => u.fstate 0 = .tripping && u.trips = ⟨[], []⟩) = true := by decide +kernel

theorem test_request_behind_an_open_breaker_is_ignored :
    post (exec (.sampleSetArrival faultSet) behind) (fun t =>
      post (exec (.breakerPositionOpen 0) t) fun u =>
        u.ctx[(0 : Feeder)].lastTrip = some .selfTrip && u.disc[(0 : Feeder)].instOps = 1
          && post (step u) fun v => v = u.modTrips fun q => { q with calls := [] }) = true := by decide +kernel

theorem test_request_behind_a_further_set_copies_it :
    post (exec (.sampleSetArrival faultSet) behind) (fun t =>
      post (exec (.sampleSetArrival (8 :: faultSet.drop 1)) t) fun u =>
        u.fstate 0 = .tripping && u.slots[(1 : Fin 8)].trigger = 7 && u.slots[(1 : Fin 8)].pre = 1
          && u.slots[(1 : Fin 8)].pairs.length = 2) = true := by decide +kernel

theorem test_watchdog_seals_the_record :
    post (exec .sampleWatchdogExpiry (watchdogOut recording)) (fun t =>
      t.slots[(0 : Fin 8)] = { recording.slots[(0 : Fin 8)] with state := .sealed, truncated := true }
        && t.slots[(1 : Fin 8)].state = .free) = true := by decide

/-- Reset, LOCKED, with the counter at the deadline. -/
def atDeadline : State :=
  { (State.reset.modTracker fun k =>
      { k with state := .locked, prev := some 0, period := some 200000, deadline := some 202000 }) with
    time := ⟨202000, 20, 2000⟩ }

theorem test_crossing_and_expiry_in_both_orders :
    post (exec (.crossing 5) atDeadline) (fun t => post (exec .lockedDeadlineExpiry t) fun u => u = t) = true
      ∧ post (exec .lockedDeadlineExpiry atDeadline) (fun t => t.tracker.state = .holdover) = true := by decide

theorem test_cool_notice_ends_a_thermal_dead_time :
    (((feederIn .deadTime).modCtx 0 fun c => { c with wait := some .thermal }).coolNotice 0).fstate 0 = .opened
      ∧ ((({ (feederIn .deadTime) with startHold := false } : State).modCtx 0 fun c =>
          { c with wait := some .thermal }).coolNotice 0).lineTest.queue = [0]
      ∧ (feederIn .deadTime).coolNotice 0 = feederIn .deadTime := by decide

theorem test_crossing_takes_the_counter :
    post (step { (State.reset.modTracker fun k => { k with state := .locked, prev := some 0, period := some 200000 }) with
      time := ⟨200100, 20, 100⟩, pending := [.crossing 5] }) (fun t =>
      t.tracker.prev = some 200100 && t.tracker.state = .locked && t.time.stamp = 200100) = true := by decide

theorem test_bytes_out_of_a_release :
    post (step (queued (.releaseHold .s))) (fun t =>
      (List.range 4).map t.ports.s.clockedOut = [0xD8, 1, 0, 0]) = true := by decide

/-- Reset, with port C's line low, no bit clocked, and the start hold released since. -/
def lowC : State :=
  { State.reset.lowerSelect .c with startHold := false }

theorem test_status_byte_is_formed_at_its_first_bit :
    lowC.ports.c.phase = .status ∧ lowC.ports.c.buffer = []
      ∧ post (exec (.readConditions .c) lowC) (fun t => t.ports.c.shown = 0xC0) = true
      ∧ post (exec (.readConditions .c) State.reset) (fun t => t.ports.c.shown = 0xC8) = true
      ∧ post (exec (.selectLow .c [0x20, 3]) (State.reset.modPort .c fun u => { u with frameError := true })) (fun t =>
          t.ports.c.shown = 0xE8 && !t.ports.c.frameError && t.ports.c.buffer = [0x20]) = true := by decide

/-- α_max 900 and α_inv 1,500 as they stand after the reset, at the end of the response. -/
theorem test_read_rectifier_ends_with_the_limits :
    post (step (queued (.readRectifier .s))) (fun t =>
      t.ports.s.response.drop (t.ports.s.response.length - 4) = [3, 132, 5, 220]) = true := by decide +kernel

/-! ## Witnesses: a state and operands that meet the hypotheses of each statement, clause by clause -/

theorem test_witness_queue_empty_with_nothing_due : State.reset.pending = [] ∧ State.reset.dueNow = []
    ∧ State.reset.time.sub + 1 < 10000 := by decide

theorem test_witness_queue_empty_with_a_request :
    let s := State.reset.modTrips fun q => { q with calls := [⟨0, .ror, 2000, 7, 0⟩] }
    s.pending = [] ∧ s.trips.calls = [⟨0, .ror, 2000, 7, 0⟩] ∧ State.reset.trips.calls = [] := by decide

theorem test_witness_queue_empty_at_the_end_of_a_millisecond :
    let s : State := { State.reset with time := ⟨9999, 0, 9999⟩ }
    s.pending = [] ∧ s.dueNow = [] ∧ 10000 ≤ s.time.sub + 1 := by decide

theorem test_witness_queue_empty_with_an_event_due :
    let s := State.reset.modSample fun u => { u with blindTimer := some 0 }
    s.pending = [] ∧ s.dueNow = [.blindTimerExpiry] := by decide

theorem test_witness_set_lengths : plainSet.length = 33 ∧ (plainSet.drop 1).length ≠ 33 ∧ (0 :: plainSet).length ≠ 33 := by
  decide

theorem test_witness_set_in_blind_below_four :
    parseSet plainSet = some ⟨7, Vector.replicate 16 100⟩ ∧ State.reset.sample.state = .blind
      ∧ State.reset.sample.resume = 0 := by decide

theorem test_witness_select_line_raised : State.reset.inputs.selectS = false ∧ State.reset.inputs.selectC = false := by
  decide

theorem test_witness_set_in_blind_at_three_and_four :
    let s (n : Nat) := State.reset.modSample fun u => { u with resume := n, expect := some 7 }
    parseSet plainSet = some ⟨7, Vector.replicate 16 100⟩ ∧ (s 2).sample.state = .blind ∧ (s 3).sample.state = .blind
      ∧ (s 3).sample.expect.any (fun e => e != plainSet.getD 0 0) = false
      ∧ post (exec (.sampleSetArrival plainSet) (s 2)) (fun t => t.sample.resume = 3 && t.sample.state = .blind) = true
      ∧ post (exec (.sampleSetArrival plainSet) (s 3)) (fun t => t.sample.state = .live) = true := by decide +kernel

theorem test_witness_set_in_live : parseSet plainSet = some ⟨7, Vector.replicate 16 100⟩ ∧ live.sample.state = .live := by
  decide

/-- Reset, with feeder 1's channel at a run of invalid samples, FAILED or not. -/
def runAt (n : Nat) (failed : Bool) : State :=
  State.reset.modSample fun u =>
    { u with channels := u.channels.set 0 ⟨none, n⟩, failed := u.failed.set 0 failed }

theorem test_witness_channel_clauses :
    (runAt 16 false).sample.failed[(0 : Feeder)] = false ∧ 16 ≤ (runAt 16 false).sample.channels[chI 0].invalidRun
      ∧ (runAt 15 false).sample.failed[(0 : Feeder)] = false ∧ (runAt 15 false).sample.channels[chI 0].invalidRun < 16
      ∧ (runAt 0 true).sample.failed[(0 : Feeder)] = true ∧ (runAt 0 true).sample.channels[chI 0].invalidRun = 0
      ∧ (runAt 1 true).sample.failed[(0 : Feeder)] = true ∧ (runAt 1 true).sample.channels[chI 0].invalidRun ≠ 0 := by
  decide

theorem test_witness_watchdog_clauses :
    State.reset.sample.watchdog ≠ some 0 ∧ live.sample.watchdog ≠ some 0
      ∧ (watchdogOut live).sample.watchdog = some 0 ∧ (watchdogOut live).sample.state = .live
      ∧ (watchdogOut live).anyFailed = false ∧ (watchdogOut State.reset).sample.watchdog = some 0
      ∧ (watchdogOut State.reset).sample.state = .blind := by decide

/-- Reset, with a period estimate. -/
def periodOf (p : Int) : State := State.reset.modTracker fun k => { k with period := some p }

theorem test_witness_period_at_its_bounds :
    (periodOf 181818).tracker.period = some 181818 ∧ (periodOf 222222).tracker.period = some 222222
      ∧ (periodOf 222222).correction 230000 = 222222 ∧ (periodOf 181818).correction 20000 = 181818 := by decide

theorem test_witness_period_invariant :
    (∀ p, (periodOf 200000).tracker.period = some p → 181818 ≤ p ∧ p ≤ 222222)
      ∧ post (step (periodOf 200000)) (fun _ => true) = true := by
  refine ⟨?_, by decide⟩
  rintro p ⟨⟩
  decide

theorem test_witness_block_request_causes : (RectCause.busFault = .busFault ∨ RectCause.busFault = .breakerFail
    ∨ RectCause.busFault = .gateFault ∨ RectCause.busFault = .blind ∨ RectCause.busFault = .syncLost) := by decide

theorem test_witness_lockout_demand_causes : (LockCause.mismatch = .peerLockout ∨ LockCause.mismatch = .peerLost
    ∨ LockCause.mismatch = .mismatch ∨ LockCause.mismatch = .intertripUnack) := by decide

/-- Reset, with feeder 1 tested and feeder 2 in the queue. -/
def testing : State := State.reset.modLine fun u => { u with tested := some 0, timer := some 0, queue := [1] }

theorem test_witness_line_test_clauses :
    testing.lineTest.tested = some 0 ∧ testing.lineTest.tested.isSome = true ∧ State.reset.lineTest.tested = none
      ∧ (testing.modLine fun u => { u with tested := none }).lineTest.tested = none
      ∧ (testing.modLine fun u => { u with tested := none }).lineTest.queue = 1 :: [] := by decide

theorem test_witness_frames_round_trip :
    PeerFrame.wellFormed (.blockSet 3 [0, 1, 2, 3, 65535]) = true
      ∧ PeerFrame.wellFormed (.status (Vector.replicate 4 ⟨false, .lead, true, true, 4⟩)) = true := by decide

theorem test_witness_requests_round_trip :
    Instr.wellFormed (.resetLockoutFeeder .c 6) = true
      ∧ encodeRequest (.resetLockoutFeeder .c 6) = some (.c, [0x22, 6])
      ∧ Instr.wellFormed (.unknownCommand .s 0x0C) = true
      ∧ encodeRequest (.unknownCommand .s 0x0C) = some (.s, [0x0C]) := by decide

theorem test_witness_gates_allowed : State.reset.GatesAllowed ∧ post (step State.reset) (fun _ => true) = true :=
  ⟨⟨by decide, by decide⟩, by decide⟩

/-- Reset, with port S attached and one entry unread, and port C attached with nothing unread. -/
def readersAttached : State := { State.reset with readers := ⟨⟨some 0, 0, 0x3F⟩, ⟨some 1, 0, 0x3F⟩⟩ }

theorem test_witness_journal_and_records :
    readersAttached.JournalNumbered ∧ readersAttached.CursorsPlaced ∧ readersAttached.RecordsReferenced :=
  ⟨⟨by decide, by decide⟩, fun p c h => by cases p <;> cases h <;> decide, by unfold State.RecordsReferenced; decide⟩

/-- Reset, with feeder 1 CLOSED and its breaker shown closed. -/
def closedFeeder : State :=
  { (feederIn .closed) with inputs := { Inputs.quiet with breaker := Inputs.quiet.breaker.set 0 true } }

theorem test_witness_feeders_safe :
    closedFeeder.FeedersSafe ∧ post (step closedFeeder) (fun _ => true) = true :=
  ⟨⟨by unfold Context.Sound; decide, by unfold State.TestsSound; decide, by unfold State.PositionsSound; decide,
    by unfold State.BarredSafe; decide⟩, by decide⟩

theorem test_witness_conditions_latched :
    let s : State := { mapped with ports := ⟨PortUnit.reset 0x082F, PortUnit.reset 0x082F⟩ }
    s.MapFollowsSettings ∧ s.ConditionsLatched := by
  refine ⟨by unfold State.MapFollowsSettings; decide,
    by unfold State.SinglesUnmapped; decide, fun p b => ?_⟩
  cases p <;> cases b <;> decide

theorem test_witness_map_on_a_link : mapped.MapFollowsSettings ∧ mapped.SinglesUnmapped :=
  ⟨by unfold State.MapFollowsSettings; decide, by unfold State.SinglesUnmapped; decide⟩

end Sys2Proof.Tests
end

section
/-! PROOFS. The sample unit on an arriving transfer (01 R1 to R5): conditioning, what a taken set does to the
channels, the expectation, the gap counter, the watchdog and the FAILED flags, and that resumption, delivery and the
line test unit leave all of these alone. -/

namespace Sys2Proof.Machine

/-! ## Conditioning (01 R2) -/

theorem clamp_eq_ite (x : Int) {a b : Int} (h : a ≤ b) :
    clamp x a b = if x < a then a else if b < x then b else x := by
  unfold clamp
  split_ifs <;> omega

theorem isCurrent_iff (k : ChannelNo) :
    isCurrent k = true ↔ k.val < 6 ∨ k.val = 13 ∨ k.val = 14 ∨ k.val = 15 := by
  simp only [isCurrent, Bool.or_eq_true, decide_eq_true_eq]
  omega

/-- Settles O6: the two ranges are both given by `clamp`, and the current channels are those of `isCurrent`. -/
theorem rawCodesAreConditioned : Obligations.RawCodesAreConditioned := by
  intro k code
  simp only [condition, isCurrent_iff, clamp_eq_ite code (show (-20000 : Int) ≤ 20000 by decide),
    clamp_eq_ite code (show (0 : Int) ≤ 2000 by decide)]

/-! ## The set is read from the transfer (01 R1) -/

theorem exec_sampleSetArrival (bytes : List Byte) (s : State) :
    exec (.sampleSetArrival bytes) s = execSampleSetArrival bytes s := rfl

/-- The set that a transfer of 33 bytes carries (11.1). -/
def transferSet (bytes : List Byte) : SampleSet :=
  ⟨bytes.getD 0 0, Vector.ofFn fun k => signed16 (bytes.getD (1 + 2 * k.val) 0) (bytes.getD (2 + 2 * k.val) 0)⟩

theorem parseSet_of_length {bytes : List Byte} (h : bytes.length = 33) : parseSet bytes = some (transferSet bytes) :=
  if_pos h

theorem parseSet_of_length_ne {bytes : List Byte} (h : bytes.length ≠ 33) : parseSet bytes = none :=
  if_neg h

theorem execSampleSetArrival_taken {bytes : List Byte} {x : SampleSet} (s : State) (h : parseSet bytes = some x) :
    execSampleSetArrival bytes s = .next (s.takeSet x).settle := by
  simp only [execSampleSetArrival, h]

theorem execSampleSetArrival_discarded {bytes : List Byte} (s : State) (h : parseSet bytes = none) :
    execSampleSetArrival bytes s =
      .next (s.modSample fun u => { u with setErrors := satInc Config.counterTop u.setErrors }) := by
  simp only [execSampleSetArrival, h]

/-! ## The sample unit takes a set (01 R3, R5, R6) -/

theorem transferSet_conditioned (bytes : List Byte) (k : ChannelNo) :
    (transferSet bytes).conditioned[k] =
      condition k (signed16 (bytes.getD (1 + 2 * k.val) 0) (bytes.getD (2 + 2 * k.val) 0)) := by
  simp [SampleSet.conditioned, transferSet]

theorem SampleUnit.takeSet_channel (u : SampleUnit) (x : SampleSet) (k : ChannelNo) :
    (u.takeSet x).channels[k] = u.channels[k].take x.conditioned[k] := by
  simp [SampleUnit.takeSet]

theorem SampleUnit.takeSet_gapCount (u : SampleUnit) (x : SampleSet) :
    (u.takeSet x).gapCount = match u.expect with
      | none => u.gapCount
      | some e => if e = x.seq then u.gapCount else satInc 65535 u.gapCount := by
  cases h : u.expect with
  | none => simp [SampleUnit.takeSet, SampleUnit.outOfSequence, h]
  | some e => by_cases hs : e = x.seq <;> simp [SampleUnit.takeSet, SampleUnit.outOfSequence, h, hs, Config.counterTop]

/-! ## The channel failure checks (01 R4) -/

/-- The FAILED flag of a feeder after its check: a run of 16 sets it, a run of 0 clears it. -/
def SampleUnit.failedNext (u : SampleUnit) (f : Feeder) : Bool :=
  if u.failed[f] then decide (u.channels[chI f].invalidRun ≠ 0) else decide (16 ≤ u.channels[chI f].invalidRun)

theorem SampleUnit.failedNext_of_failed (u : SampleUnit) (f : Feeder) (h : u.failed[f] = true) :
    u.failedNext f = decide (u.channels[chI f].invalidRun ≠ 0) :=
  if_pos h

theorem SampleUnit.failedNext_of_not_failed (u : SampleUnit) (f : Feeder) (h : ¬u.failed[f] = true) :
    u.failedNext f = decide (16 ≤ u.channels[chI f].invalidRun) :=
  if_neg h

/-- What the check of one feeder does in the sample unit. -/
def SampleUnit.check (u : SampleUnit) (f : Feeder) : SampleUnit :=
  { u with failed := u.failed.set f (u.failedNext f) }

theorem SampleUnit.check_failed (u : SampleUnit) (f h : Feeder) :
    (u.check f).failed[h] = if f = h then u.failedNext h else u.failed[h] := by
  by_cases hf : f = h
  · subst hf; simp [SampleUnit.check]
  · simp [SampleUnit.check, hf, Fin.val_inj]

/-- A check that is already made decides the same again, and the feeders do not disturb each other. -/
theorem SampleUnit.check_failedNext (u : SampleUnit) (f h : Feeder) : (u.check f).failedNext h = u.failedNext h := by
  unfold SampleUnit.failedNext
  rw [u.check_failed, show (u.check f).channels = u.channels from rfl]
  by_cases hf : f = h
  · simp only [if_pos hf, SampleUnit.failedNext]
    cases u.failed[h] <;> grind
  · rw [if_neg hf]

theorem SampleUnit.checks_failed (fs : List Feeder) (u : SampleUnit) (h : Feeder) :
    (fs.foldl SampleUnit.check u).failed[h] = if h ∈ fs then u.failedNext h else u.failed[h] := by
  induction fs generalizing u with
  | nil => simp
  | cons f fs ih =>
    rw [List.foldl_cons, ih, u.check_failedNext, u.check_failed]
    by_cases hfs : h ∈ fs <;> simp [hfs, eq_comm]

/-- The checks change nothing in the sample unit but the FAILED flags. -/
theorem SampleUnit.checks_eq (fs : List Feeder) (u : SampleUnit) :
    fs.foldl SampleUnit.check u = { u with failed := (fs.foldl SampleUnit.check u).failed } := by
  induction fs generalizing u with
  | nil => rfl
  | cons f fs ih => rw [List.foldl_cons, ih]; rfl

theorem State.channelFails_only (s : State) (f : Feeder) :
    (s.modSample fun u => { u with failed := u.failed.set f true }).SequencerOnly (s.channelFails f) := by
  unfold State.channelFails
  extract_lets alone t w
  have hw : t.SequencerOnly w := by
    simp only [w]; split
    · exact t.tripRequest_only f _ _ _ _
    · exact .refl t
  exact (hw.trans (State.append_only _ _ _ _ _).toSequencerOnly).trans (State.onsetIf_only _ _ _).toSequencerOnly

theorem State.channelRestored_only (s : State) (f : Feeder) :
    (s.modSample fun u => { u with failed := u.failed.set f false }).SequencerOnly (s.channelRestored f) :=
  (State.append_only _ _ _ _ _).toSequencerOnly

/-- A check that leaves the flag as it is leaves the state as it is. -/
theorem State.modSample_check_of_same (s : State) (f : Feeder) (h : s.sample.failedNext f = s.sample.failed[f]) :
    s.modSample (SampleUnit.check · f) = s := by
  simp [State.modSample, SampleUnit.check, h]

/-- The check of one feeder in the four cases of 01 R4. -/
theorem State.checkChannel_only (s : State) (f : Feeder) :
    (s.modSample (SampleUnit.check · f)).SequencerOnly (s.checkChannel f) := by
  have flag (b : Bool) (h : s.sample.failedNext f = b) :
      s.modSample (SampleUnit.check · f) = s.modSample fun u => { u with failed := u.failed.set f b } := by
    simp only [State.modSample, SampleUnit.check, h]
  unfold State.checkChannel
  dsimp only
  split
  next hfailed =>
    have hnext := s.sample.failedNext_of_failed f hfailed
    split
    next hzero =>
      rw [flag false (by simp only [hnext, hzero, ne_eq, not_true_eq_false, decide_false])]
      exact s.channelRestored_only f
    next hrun =>
      rw [s.modSample_check_of_same f (by simp only [hnext, hrun, hfailed, ne_eq, not_false_eq_true, decide_true])]
      exact .refl s
  next hfailed =>
    have hnext := s.sample.failedNext_of_not_failed f hfailed
    split
    next hrun =>
      rw [flag true (hnext.trans (decide_eq_true hrun))]
      exact s.channelFails_only f
    next hrun =>
      have hclear : s.sample.failed[f] = false := eq_false_of_ne_true hfailed
      rw [s.modSample_check_of_same f ((hnext.trans (decide_eq_false hrun)).trans hclear.symm)]
      exact .refl s

theorem State.SequencerOnly.modSample {s t : State} (h : s.SequencerOnly t) (g : SampleUnit → SampleUnit) :
    (s.modSample g).SequencerOnly (t.modSample g) :=
  { h with sample := congrArg g h.sample }

theorem State.checkChannels_only (s : State) :
    (s.modSample fun u => feeders.foldl SampleUnit.check u).SequencerOnly s.checkChannels := by
  suffices h : ∀ (fs : List Feeder) (t : State),
      (t.modSample fun u => fs.foldl SampleUnit.check u).SequencerOnly (fs.foldl State.checkChannel t) from h feeders s
  intro fs
  induction fs with
  | nil => exact .refl
  | cons f fs ih => exact fun t => ((t.checkChannel_only f).modSample _).trans (ih (t.checkChannel f))

/-! ## What resumption and delivery leave alone (01 R7, R9) -/

/-- Two states agree on the inputs, the clock, the tracker, the sections, the start hold, the settings, the queue and the
ports' transactions, and in the sample unit on all that a set has changed before its delivery (01 R3 to R6). -/
structure State.DeliveryFrame (s t : State) : Prop where
  inputs : t.inputs = s.inputs
  time : t.time = s.time
  tracker : t.tracker = s.tracker
  sections : t.sections = s.sections
  startHold : t.startHold = s.startHold
  settings : t.settings = s.settings
  pending : t.pending = s.pending
  ports : ∀ p, (t.ports.get p).phase = (s.ports.get p).phase ∧ (t.ports.get p).buffer = (s.ports.get p).buffer
  channels : t.sample.channels = s.sample.channels
  failed : t.sample.failed = s.sample.failed
  expect : t.sample.expect = s.sample.expect
  gapCount : t.sample.gapCount = s.sample.gapCount
  setErrors : t.sample.setErrors = s.sample.setErrors
  watchdog : t.sample.watchdog = s.sample.watchdog

theorem State.DeliveryFrame.refl (s : State) : s.DeliveryFrame s := by constructor <;> simp

theorem State.DeliveryFrame.trans {a b c : State} (h : a.DeliveryFrame b) (k : b.DeliveryFrame c) :
    a.DeliveryFrame c where
  inputs := k.inputs.trans h.inputs
  time := k.time.trans h.time
  tracker := k.tracker.trans h.tracker
  sections := k.sections.trans h.sections
  startHold := k.startHold.trans h.startHold
  settings := k.settings.trans h.settings
  pending := k.pending.trans h.pending
  ports p := ⟨(k.ports p).1.trans (h.ports p).1, (k.ports p).2.trans (h.ports p).2⟩
  channels := k.channels.trans h.channels
  failed := k.failed.trans h.failed
  expect := k.expect.trans h.expect
  gapCount := k.gapCount.trans h.gapCount
  setErrors := k.setErrors.trans h.setErrors
  watchdog := k.watchdog.trans h.watchdog

theorem State.DeliveryFrame.foldl {α : Type} {op : State → α → State}
    (h : ∀ (s : State) (x : α), s.DeliveryFrame (op s x)) (xs : List α) (s : State) : s.DeliveryFrame (xs.foldl op s) := by
  induction xs generalizing s with
  | nil => exact .refl s
  | cons x xs ih => exact (h s x).trans (ih _)

theorem State.SequencerOnly.toDeliveryFrame {s t : State} (h : s.SequencerOnly t) : s.DeliveryFrame t :=
  { h with
    ports := fun p => ⟨(h.ports p).1, (h.ports p).2.1⟩
    channels := by rw [h.sample]
    failed := by rw [h.sample]
    expect := by rw [h.sample]
    gapCount := by rw [h.sample]
    setErrors := by rw [h.sample]
    watchdog := by rw [h.sample] }

theorem State.RectifierOnly.toDeliveryFrame {s t : State} (h : s.RectifierOnly t) : s.DeliveryFrame t :=
  { h with
    ports := fun p => ⟨(h.ports p).1, (h.ports p).2.1⟩
    channels := by rw [h.sample]
    failed := by rw [h.sample]
    expect := by rw [h.sample]
    gapCount := by rw [h.sample]
    setErrors := by rw [h.sample]
    watchdog := by rw [h.sample] }

theorem State.JournalOnly.toDeliveryFrame {s t : State} (h : s.JournalOnly t) : s.DeliveryFrame t :=
  h.toSequencerOnly.toDeliveryFrame

theorem State.modTrips_frame (s : State) (g : TripQueue → TripQueue) : s.DeliveryFrame (s.modTrips g) := by
  constructor <;> simp

theorem State.modDisc_frame (s : State) (f : Feeder) (g : Disc → Disc) : s.DeliveryFrame (s.modDisc f g) := by
  constructor <;> simp

theorem State.evaluate_frame (s : State) (f : Feeder) (mark : Bool) : s.DeliveryFrame (s.evaluate f mark) := by
  obtain ⟨t, ht, heq⟩ := s.evaluate_only f mark
  rw [heq, State.handOver_eq]
  exact ((s.modDisc_frame f _).trans ht.toDeliveryFrame).trans (t.modTrips_frame _)

theorem State.discriminate_frame (s : State) (mark : Bool) : s.DeliveryFrame (s.discriminate mark) :=
  .foldl (fun s f => s.evaluate_frame f mark) feeders s

theorem State.offerTrips_frame (s : State) : s.DeliveryFrame s.offerTrips := by
  obtain ⟨q, hq⟩ := s.offerTrips_only
  exact (s.modTrips_frame _).trans hq.toDeliveryFrame

theorem State.busTrip_frame (s : State) (d : Int) : s.DeliveryFrame (s.busTrip d) := by
  unfold State.busTrip
  split
  · exact .refl s
  · exact ((s.blockRequest_only _ _).toDeliveryFrame.trans
      (.foldl (fun s f => (s.tripRequest_only f _ _ _ _).toDeliveryFrame) feeders _)).trans
      (State.append_only _ _ _ _ _).toDeliveryFrame

theorem State.busAlarm_frame (s : State) (d : Int) : s.DeliveryFrame (s.busAlarm d) := by
  unfold State.busAlarm
  split
  · exact .refl s
  · exact (s.append_only _ _ _ _).toDeliveryFrame.trans (State.modRect_only _ _).toDeliveryFrame

theorem State.declareBusFault_frame (s : State) (d : Int) : s.DeliveryFrame (s.declareBusFault d) := by
  unfold State.declareBusFault
  split
  · exact s.busTrip_frame d
  · exact s.busAlarm_frame d
  · exact .refl s

theorem State.busStep_frame (s : State) : s.DeliveryFrame s.busStep := by
  have hdiff := s.busDifferential_only.toDeliveryFrame
  unfold State.busStep
  split
  next d t heq => rw [heq] at hdiff; exact hdiff.trans (t.declareBusFault_frame d)
  next t heq => rw [heq] at hdiff; exact hdiff

theorem State.deliver_frame (s : State) (x : SampleSet) (mark : Bool) : s.DeliveryFrame (s.deliver x mark) := by
  have hrings : s.DeliveryFrame (s.modSample fun u => u.deliver (x.row mark)) := by
    constructor <;> simp [SampleUnit.deliver]
  have hseen := (hrings.trans (State.discriminate_frame _ mark)).trans
    (State.fillSlots_only _ (x.row mark)).toDeliveryFrame
  exact (((hseen.trans (State.offerTrips_frame _)).trans (State.addSums_only _).toDeliveryFrame).trans
    (State.busStep_frame _)).trans (State.absorber_only _).toDeliveryFrame

theorem State.enterLive_frame (s : State) : s.DeliveryFrame s.enterLive := by
  have hlive : s.DeliveryFrame (s.modSample fun u => { u with state := .live, blindTimer := none }) := by
    constructor <;> simp
  exact (hlive.trans (State.tryRestart_only _).toDeliveryFrame).trans (State.append_only _ _ _ _ _).toDeliveryFrame

theorem State.resume_frame (s : State) (gap : Bool) : s.DeliveryFrame (s.resume gap) := by
  have hcount : s.DeliveryFrame (s.modSample fun u => { u with resume := u.resumeNext gap }) := by
    constructor <;> simp
  unfold State.resume
  extract_lets t
  split
  · exact hcount.trans t.enterLive_frame
  · exact hcount

/-- After the channel failure checks, a taken set resumes and is delivered as the measurement state says. -/
theorem State.takeSet_frame (s : State) (x : SampleSet) :
    ((s.modSample fun u => u.takeSet x).checkChannels).DeliveryFrame (s.takeSet x) := by
  unfold State.takeSet
  extract_lets gap t r
  split
  · exact t.deliver_frame x gap
  · have hr : t.DeliveryFrame r := t.resume_frame gap
    split
    · exact hr.trans (r.deliver_frame x true)
    · exact hr

/-! ## The transfer as a whole -/

/-- The sample unit that has taken a set and made the channel failure checks (01 R3 to R6). -/
def SampleUnit.taken (u : SampleUnit) (x : SampleSet) : SampleUnit := feeders.foldl SampleUnit.check (u.takeSet x)

theorem SampleUnit.taken_eq (u : SampleUnit) (x : SampleSet) :
    u.taken x = { u.takeSet x with failed := (u.taken x).failed } := SampleUnit.checks_eq feeders _

theorem SampleUnit.taken_failed (u : SampleUnit) (x : SampleSet) (f : Feeder) :
    (u.taken x).failed[f] = if u.failed[f] then decide ((u.taken x).channels[chI f].invalidRun ≠ 0)
      else decide (16 ≤ (u.taken x).channels[chI f].invalidRun) := by
  have hall : f ∈ feeders := by revert f; decide
  rw [SampleUnit.taken, SampleUnit.checks_failed, if_pos hall, SampleUnit.checks_eq]
  rfl

/-- A taken set changes the sample unit as `SampleUnit.taken` says; what follows stays inside `DeliveryFrame`. -/
theorem State.takeSet_settle_frame (s : State) (x : SampleSet) :
    (s.modSample fun u => u.taken x).DeliveryFrame (s.takeSet x).settle :=
  ((State.checkChannels_only _).toDeliveryFrame.trans (s.takeSet_frame x)).trans (State.settle_only _).toDeliveryFrame

/-- Settles O7: a transfer of 33 bytes changes the sample unit by `SampleUnit.taken`, and everything after it stays inside
`State.DeliveryFrame`; any other parses to no set. -/
theorem takenSetUpdatesSampleUnit : Obligations.TakenSetUpdatesSampleUnit := by
  intro bytes s
  rw [exec_sampleSetArrival]
  constructor
  · intro hlen
    exact execSampleSetArrival_discarded s (parseSet_of_length_ne hlen)
  · intro hlen
    refine ⟨_, execSampleSetArrival_taken s (parseSet_of_length hlen), ?_⟩
    have hframe := s.takeSet_settle_frame (transferSet bytes)
    have heq := s.sample.taken_eq (transferSet bytes)
    refine ⟨fun k => ?_, ?_, ?_, ?_, ?_, fun f => ?_, hframe.inputs.trans (s.modSample_inputs _),
      hframe.tracker.trans (s.modSample_tracker _), hframe.settings.trans (s.modSample_settings _),
      hframe.sections.trans (s.modSample_sections _), hframe.startHold.trans (s.modSample_startHold _),
      hframe.time.trans (s.modSample_time _), hframe.pending.trans (s.modSample_pending _), fun p => ?_⟩
    · rw [hframe.channels, State.modSample_sample, heq, ← transferSet_conditioned]
      exact s.sample.takeSet_channel (transferSet bytes) k
    · rw [hframe.expect, State.modSample_sample, heq]; rfl
    · rw [hframe.gapCount, State.modSample_sample, heq]
      exact s.sample.takeSet_gapCount (transferSet bytes)
    · rw [hframe.watchdog, State.modSample_sample, heq]; rfl
    · rw [hframe.setErrors, State.modSample_sample, heq]; rfl
    · rw [hframe.failed, hframe.channels]
      exact s.sample.taken_failed (transferSet bytes) f
    · simpa only [State.modSample_ports] using hframe.ports p

end Sys2Proof.Machine
end

section
/-! PROOFS. The mains tracker's period estimate (02 R16): what the correction gives, that no command but a crossing, a
tracker deadline and the resets touches the tracker, and that no step takes the estimate out of its range. -/

namespace Sys2Proof.Machine

/-! ## Period correction (02 R16) -/

theorem clamp_mem (x : Int) {a b : Int} (h : a ≤ b) : a ≤ clamp x a b ∧ clamp x a b ≤ b :=
  ⟨le_max_left a _, max_le h (min_le_right x b)⟩

theorem sign_eq_ite (e : Int) : e.sign = if e < 0 then -1 else if e = 0 then 0 else 1 := by
  split_ifs with hneg hzero
  · exact Int.sign_eq_neg_one_of_neg hneg
  · rw [hzero, Int.sign_zero]
  · exact Int.sign_eq_one_of_pos (by omega)

/-- With P or without it, the corrected estimate is clamped. -/
theorem State.correction_mem (s : State) (measured : Nat) :
    Config.periodMin ≤ s.correction measured ∧ s.correction measured ≤ Config.periodMax :=
  clamp_mem _ (by decide)

theorem State.correction_of_present {s : State} {p : Int} (measured : Nat) (h : s.tracker.period = some p) :
    s.correction measured =
      clamp (p + Int.sign (measured - p) * min ((((measured : Int) - p).natAbs / 8 : Nat) : Int) (s.g .maxAdjust))
        Config.periodMin Config.periodMax := by
  simp only [State.correction, Tracker.corrected, Tracker.error, h, Option.getD_some]

/-- Settles O13: the correction is a `clamp` whose step is the sign of the error times the limited eighth. -/
theorem periodCorrectionIsBounded : Obligations.PeriodCorrectionIsBounded := by
  intro s p measured hp e adj
  refine ⟨?_, s.correction_mem measured⟩
  rw [State.correction_of_present measured hp, sign_eq_ite]
  rfl

/-! ## What the shared operations leave of the tracker -/

@[simp] theorem State.onset_tracker (s : State) (b : Latch) : (s.onset b).tracker = s.tracker := (s.onset_only b).tracker

@[simp] theorem State.onsetIf_tracker (s : State) (c : Bool) (b : Latch) : (s.onsetIf c b).tracker = s.tracker :=
  (s.onsetIf_only c b).tracker

@[simp] theorem State.append_tracker (s : State) (k : Kind) (x : Subject) (d : Detail) (v : Int) :
    (s.append k x d v).tracker = s.tracker := (s.append_only k x d v).tracker

@[simp] theorem State.retire_tracker (s : State) : s.retire.tracker = s.tracker := s.retire_only.tracker

@[simp] theorem State.sealAll_tracker (s : State) : s.sealAll.tracker = s.tracker := s.sealAll_only.tracker

@[simp] theorem State.rectEntry_tracker (s : State) (n : RectNote) (b : Option Gate) :
    (s.rectEntry n b).tracker = s.tracker := (s.rectEntry_only n b).tracker

@[simp] theorem State.startUp_tracker (s : State) (n : RectNote) : (s.startUp n).tracker = s.tracker :=
  (s.startUp_only n).tracker

@[simp] theorem State.tryRestart_tracker (s : State) : s.tryRestart.tracker = s.tracker := s.tryRestart_only.tracker

@[simp] theorem State.enterStopped_tracker (s : State) (n : RectNote) : (s.enterStopped n).tracker = s.tracker :=
  (s.enterStopped_only n).tracker

@[simp] theorem State.shiftTo_tracker (s : State) (e : ShiftEnd) (b : Option Gate) :
    (s.shiftTo e b).tracker = s.tracker := (s.shiftTo_only e b).tracker

@[simp] theorem State.replaceEnd_tracker (s : State) (e : ShiftEnd) (b : Option Gate) :
    (s.replaceEnd e b).tracker = s.tracker := (s.replaceEnd_only e b).tracker

@[simp] theorem State.abortGateTest_tracker (s : State) : s.abortGateTest.tracker = s.tracker :=
  s.abortGateTest_only.tracker

@[simp] theorem State.blockRequest_tracker (s : State) (c : RectCause) (b : Option Gate) :
    (s.blockRequest c b).tracker = s.tracker := (s.blockRequest_only c b).tracker

@[simp] theorem State.notice_tracker (s : State) (n : Notice) : (s.notice n).tracker = s.tracker :=
  (s.notice_only n).tracker

@[simp] theorem State.acOpenRect_tracker (s : State) : s.acOpenRect.tracker = s.tracker := s.acOpenRect_only.tracker

@[simp] theorem State.eoffRect_tracker (s : State) : s.eoffRect.tracker = s.tracker := s.eoffRect_only.tracker

@[simp] theorem State.absorberEdge_tracker (s b : State) : (s.absorberEdge b).tracker = s.tracker :=
  (s.absorberEdge_only b).tracker

@[simp] theorem State.askFor_tracker (s : State) (f : Feeder) (x : Index → Frame) : (s.askFor f x).tracker = s.tracker :=
  (s.askFor_only f x).tracker

@[simp] theorem State.sendTripReq_tracker (s : State) (f : Feeder) : (s.sendTripReq f).tracker = s.tracker :=
  (s.sendTripReq_only f).tracker

@[simp] theorem State.undoReclose_tracker (s : State) (f : Feeder) : (s.undoReclose f).tracker = s.tracker :=
  (s.undoReclose_only f).tracker

@[simp] theorem State.enterLocked_tracker (s : State) (f : Feeder) (c : LockCause) :
    (s.enterLocked f c).tracker = s.tracker := (s.enterLocked_only f c).tracker

@[simp] theorem State.completeTrip_tracker (s : State) (f : Feeder) : (s.completeTrip f).tracker = s.tracker :=
  (s.completeTrip_only f).tracker

@[simp] theorem State.trip_tracker (s : State) (f : Feeder) (c : TripCause) (d : Disposition) (v : Int) (b : Byte) :
    (s.trip f c d v b).tracker = s.tracker := (s.trip_only f c d v b).tracker

@[simp] theorem State.tripRequest_tracker (s : State) (f : Feeder) (c : TripCause) (d : Disposition) (v : Int)
    (b : Byte) : (s.tripRequest f c d v b).tracker = s.tracker := (s.tripRequest_only f c d v b).tracker

@[simp] theorem State.protectionTrip_tracker (s : State) (f : Feeder) (c : TripCause) (v : Int) (b : Byte) (n : Nat) :
    (s.protectionTrip f c v b n).tracker = s.tracker := (s.protectionTrip_only f c v b n).tracker

@[simp] theorem State.takeTrip_tracker (s : State) (r : TripCall) : (s.takeTrip r).tracker = s.tracker :=
  (s.takeTrip_only r).tracker

@[simp] theorem State.commandedOpen_tracker (s : State) (f : Feeder) (c : TripCause) :
    (s.commandedOpen f c).tracker = s.tracker := (s.commandedOpen_only f c).tracker

@[simp] theorem State.barFeeder_tracker (s : State) (f : Feeder) (c : TripCause) : (s.barFeeder f c).tracker = s.tracker :=
  (s.barFeeder_only f c).tracker

@[simp] theorem State.failedAttempt_tracker (s : State) (f : Feeder) (d : Detail) :
    (s.failedAttempt f d).tracker = s.tracker := (s.failedAttempt_only f d).tracker

@[simp] theorem State.enterClosing_tracker (s : State) (f : Feeder) : (s.enterClosing f).tracker = s.tracker :=
  (s.enterClosing_only f).tracker

@[simp] theorem State.interlockFails_tracker (s : State) (f : Feeder) : (s.interlockFails f).tracker = s.tracker :=
  (s.interlockFails_only f).tracker

@[simp] theorem State.joinQueue_tracker (s : State) (f : Feeder) (a : Bool) : (s.joinQueue f a).tracker = s.tracker :=
  (s.joinQueue_only f a).tracker

@[simp] theorem State.deadTimeEnd_tracker (s : State) (f : Feeder) : (s.deadTimeEnd f).tracker = s.tracker :=
  (s.deadTimeEnd_only f).tracker

@[simp] theorem State.lockoutDemand_tracker (s : State) (f : Feeder) (c : LockCause) :
    (s.lockoutDemand f c).tracker = s.tracker := (s.lockoutDemand_only f c).tracker

@[simp] theorem State.eoffFeeder_tracker (s : State) (f : Feeder) : (s.eoffFeeder f).tracker = s.tracker :=
  (s.eoffFeeder_only f).tracker

@[simp] theorem State.endTest_tracker (s : State) (f : Feeder) : (s.endTest f).tracker = s.tracker :=
  (s.endTest_only f).tracker

@[simp] theorem State.settle_tracker (s : State) : s.settle.tracker = s.tracker := s.settle_only.tracker

@[simp] theorem State.modIndex_tracker (s : State) (l : Link) (i : Index) (g : IndexUnit → IndexUnit) :
    (s.modIndex l i g).tracker = s.tracker := rfl

@[simp] theorem State.ask_tracker (s : State) (l : Link) (x : Frame) : (s.ask l x).tracker = s.tracker := rfl

theorem foldl_tracker {α : Type} {op : State → α → State} (h : ∀ (s : State) (x : α), (op s x).tracker = s.tracker)
    (xs : List α) (s : State) : (xs.foldl op s).tracker = s.tracker := by
  induction xs generalizing s with
  | nil => rfl
  | cons x xs ih => exact (ih _).trans (h s x)

/-! ## Commands that leave the tracker alone -/

/-- Where the answer is a next state, that state has the tracker of `s`. -/
def KeepsTracker (s : State) (a : Answer) : Prop := ∀ t, a = .next t → t.tracker = s.tracker

@[simp] theorem keepsTracker_next (s t : State) : KeepsTracker s (.next t) ↔ t.tracker = s.tracker :=
  ⟨fun h => h t rfl, fun h u hu => by cases hu; exact h⟩

/-! ## The sample unit (01) -/

theorem execSampleSetArrival_keepsTracker (bytes : List Byte) (s : State) :
    KeepsTracker s (execSampleSetArrival bytes s) := by
  cases h : parseSet bytes with
  | none => rw [execSampleSetArrival_discarded s h]; simp
  | some x =>
    rw [execSampleSetArrival_taken s h, keepsTracker_next]
    exact (s.takeSet_settle_frame x).tracker

@[simp] theorem State.enterBlind_tracker (s : State) : s.enterBlind.tracker = s.tracker := by
  simp [State.enterBlind]

theorem execSampleWatchdogExpiry_keepsTracker (s : State) : KeepsTracker s (execSampleWatchdogExpiry s) := by
  unfold execSampleWatchdogExpiry
  split_ifs <;> simp

@[simp] theorem State.blindAction_tracker (s : State) : s.blindAction.tracker = s.tracker := by
  unfold State.blindAction
  split
  · rw [State.blockRequest_tracker]
    exact foldl_tracker (fun s f => s.tripRequest_tracker f _ _ _ _) feeders s
  · rfl

theorem execBlindTimerExpiry_keepsTracker (s : State) : KeepsTracker s (execBlindTimerExpiry s) := by
  unfold execBlindTimerExpiry
  split_ifs <;> simp

/-! ## The rectifier controller (03) -/

theorem execGatePulseStart_keepsTracker (g : Gate) (s : State) : KeepsTracker s (execGatePulseStart g s) := by
  unfold execGatePulseStart
  split
  · simp
  · rw [keepsTracker_next]
    split_ifs <;> simp [State.drivePulse]

theorem execGatePulseEnd_keepsTracker (g : Gate) (s : State) : KeepsTracker s (execGatePulseEnd g s) := by
  unfold execGatePulseEnd
  split <;> simp

theorem execGateFeedback_keepsTracker (g : Gate) (s : State) : KeepsTracker s (execGateFeedback g s) := by
  unfold execGateFeedback
  split_ifs <;> simp

theorem execRestartWindowExpiry_keepsTracker (s : State) : KeepsTracker s (execRestartWindowExpiry s) := by
  unfold execRestartWindowExpiry
  split <;> simp

theorem execAcBreakerOpen_keepsTracker (s : State) : KeepsTracker s (execAcBreakerOpen s) := by
  unfold execAcBreakerOpen
  split <;> simp

theorem execAcBreakerClosed_keepsTracker (s : State) : KeepsTracker s (execAcBreakerClosed s) := by
  unfold execAcBreakerClosed
  split
  · simp
  · rw [keepsTracker_next]
    dsimp only
    split <;> simp

theorem execEoffAsserted_keepsTracker (s : State) : KeepsTracker s (execEoffAsserted s) := by
  unfold execEoffAsserted
  split
  · simp
  · simp [foldl_tracker State.eoffFeeder_tracker]

theorem execEoffReleased_keepsTracker (s : State) : KeepsTracker s (execEoffReleased s) := by
  unfold execEoffReleased
  split <;> simp

@[simp] theorem State.beginGateStep_tracker (s : State) : s.beginGateStep.tracker = s.tracker := rfl

@[simp] theorem State.finishGateTest_tracker (s : State) : s.finishGateTest.tracker = s.tracker := by
  simp [State.finishGateTest]

theorem execGateTestStepEnd_keepsTracker (s : State) : KeepsTracker s (execGateTestStepEnd s) := by
  unfold execGateTestStepEnd
  split_ifs
  · simp
  · simp
  · rw [keepsTracker_next]
    split <;> simp

theorem execGateTestDriveEnd_keepsTracker (s : State) : KeepsTracker s (execGateTestDriveEnd s) := by
  unfold execGateTestDriveEnd
  split
  · simp
  · rw [keepsTracker_next]
    split <;> simp

/-! ## The breaker sequencer and the line test unit (05, 06) -/

@[simp] theorem State.contextOpens_tracker (s : State) (f : Feeder) : (s.contextOpens f).tracker = s.tracker := by
  unfold State.contextOpens
  split <;> simp [State.stuckOpens]

@[simp] theorem State.activateBlocks_tracker (s : State) (f : Feeder) : (s.activateBlocks f).tracker = s.tracker :=
  foldl_tracker (fun s _ => s.append_tracker _ _ _ _) _ _

theorem execBreakerPositionOpen_keepsTracker (f : Feeder) (s : State) :
    KeepsTracker s (execBreakerPositionOpen f s) := by
  unfold execBreakerPositionOpen
  split <;> simp [State.showBreaker]

@[simp] theorem State.closeDone_tracker (s : State) (f : Feeder) : (s.closeDone f).tracker = s.tracker := by
  unfold State.closeDone
  dsimp only
  rw [State.append_tracker]
  split <;> simp

@[simp] theorem State.unexpectedClose_tracker (s : State) (f : Feeder) : (s.unexpectedClose f).tracker = s.tracker := by
  unfold State.unexpectedClose
  dsimp only
  split <;> simp

@[simp] theorem State.contextCloses_tracker (s : State) (f : Feeder) : (s.contextCloses f).tracker = s.tracker := by
  unfold State.contextCloses
  split <;> simp

theorem execBreakerPositionClosed_keepsTracker (f : Feeder) (s : State) :
    KeepsTracker s (execBreakerPositionClosed f s) := by
  unfold execBreakerPositionClosed
  split <;> simp [State.showBreaker, State.loadBlank]

theorem execDeadTimeExpiry_keepsTracker (f : Feeder) (s : State) : KeepsTracker s (execDeadTimeExpiry f s) := by
  unfold execDeadTimeExpiry
  split_ifs <;> simp

@[simp] theorem State.closeFails_tracker (s : State) (f : Feeder) : (s.closeFails f).tracker = s.tracker := by
  unfold State.closeFails
  split <;> simp

theorem execCloseSupervisionExpiry_keepsTracker (f : Feeder) (s : State) :
    KeepsTracker s (execCloseSupervisionExpiry f s) := by
  unfold execCloseSupervisionExpiry
  split_ifs <;> simp

theorem execReclaimExpiry_keepsTracker (f : Feeder) (s : State) : KeepsTracker s (execReclaimExpiry f s) := by
  unfold execReclaimExpiry
  split <;> simp

theorem execFollowWaitExpiry_keepsTracker (f : Feeder) (s : State) : KeepsTracker s (execFollowWaitExpiry f s) := by
  unfold execFollowWaitExpiry
  split_ifs <;> simp

theorem State.backupTrip_tracker (s : State) (f : Feeder) : (s.backupTrip f).tracker = s.tracker := by
  unfold State.backupTrip
  split <;> simp

@[simp] theorem State.escalate_tracker (s : State) (f : Feeder) : (s.escalate f).tracker = s.tracker := by
  unfold State.escalate
  extract_lets blocked backed sent
  have hbacked : backed.tracker = s.tracker := by
    simp [backed, blocked, foldl_tracker State.backupTrip_tracker]
  have hsent : sent.tracker = backed.tracker := by
    simp only [sent]
    split <;> simp
  rw [State.append_tracker, hsent, hbacked]

theorem execTripSupervisionExpiry_keepsTracker (f : Feeder) (s : State) :
    KeepsTracker s (execTripSupervisionExpiry f s) := by
  unfold execTripSupervisionExpiry
  split_ifs <;> simp

theorem execLineTestExpiry_keepsTracker (s : State) : KeepsTracker s (execLineTestExpiry s) := by
  unfold execLineTestExpiry
  split
  · simp
  · split <;> simp

/-! ## The section table (07) -/

@[simp] theorem State.announce_tracker (s b : State) (f : Feeder) : (s.announce b f).tracker = s.tracker := by
  unfold State.announce
  split
  · exact (foldl_tracker (fun s _ => s.askFor_tracker f _) _ _).trans (foldl_tracker (fun s _ => s.askFor_tracker f _) _ s)
  · rfl

@[simp] theorem State.addPeer_tracker (s : State) (f : Feeder) (tag : Tag) : (s.addPeer f tag).tracker = s.tracker := by
  unfold State.addPeer
  dsimp only
  split_ifs <;> simp

@[simp] theorem State.delPeer_tracker (s : State) (f : Feeder) (tag : Tag) : (s.delPeer f tag).tracker = s.tracker := by
  unfold State.delPeer
  split <;> simp

@[simp] theorem State.tagEntries_tracker (s : State) (f : Feeder) (k : Kind) (d : Detail) (tags : List Tag) :
    (s.tagEntries f k d tags).tracker = s.tracker :=
  foldl_tracker (fun s _ => s.append_tracker _ _ _ _) tags s

@[simp] theorem State.overflowEntry_tracker (s : State) (f : Feeder) (was now : Bool) (tag : Tag) :
    (s.overflowEntry f was now tag).tracker = s.tracker := by
  unfold State.overflowEntry
  split_ifs <;> simp

@[simp] theorem State.replacePeers_tracker (s : State) (f : Feeder) (tags : List Tag) :
    (s.replacePeers f tags).tracker = s.tracker := by
  unfold State.replacePeers
  dsimp only
  rw [State.overflowEntry_tracker, State.tagEntries_tracker, State.tagEntries_tracker]
  split <;> simp

@[simp] theorem State.writeSummary_tracker (s : State) (f : Feeder) (y : Summary) :
    (s.writeSummary f y).tracker = s.tracker := by
  unfold State.writeSummary
  dsimp only
  rw [apply_ite State.tracker, State.overflowEntry_tracker, State.modSection_tracker, State.modSection_tracker, ite_self]

@[simp] theorem State.coordDemand_tracker (s : State) (f : Feeder) (v : Coordination) :
    (s.coordDemand f v).tracker = s.tracker := by
  unfold State.coordDemand
  split <;> simp

@[simp] theorem State.setCoordination_tracker (s : State) (f : Feeder) (v : Coordination) (standing : Bool) :
    (s.setCoordination f v standing).tracker = s.tracker := by
  unfold State.setCoordination
  split <;> simp

@[simp] theorem State.remapSection_tracker (s : State) (f : Feeder) (m : Option Mapping) :
    (s.remapSection f m).tracker = s.tracker := by
  unfold State.remapSection
  extract_lets _ _ _ emptied
  have hemptied : emptied.tracker = s.tracker := rfl
  split <;> simp [hemptied]

@[simp] theorem State.dropIndex_tracker (s : State) (l : Link) (i : Index) : (s.dropIndex l i).tracker = s.tracker := by
  unfold State.dropIndex
  dsimp only
  split <;> simp

@[simp] theorem State.dropLost_tracker (s b : State) : (s.dropLost b).tracker = s.tracker := by
  refine foldl_tracker (fun s l => foldl_tracker (fun s i => ?_) indices s) linkNames s
  split <;> simp

@[simp] theorem State.gainedLinks_tracker (s b : State) : (s.gainedLinks b).tracker = s.tracker :=
  foldl_tracker (fun s _ => s.onsetIf_tracker _ _) linkNames s

@[simp] theorem State.remap_tracker (s : State) : s.remap.tracker = s.tracker := by
  unfold State.remap
  dsimp only
  rw [State.onsetIf_tracker, State.gainedLinks_tracker, State.dropLost_tracker]
  refine foldl_tracker (fun t f => ?_) feeders s
  split <;> simp

theorem execEarthSwitchClosed_keepsTracker (f : Feeder) (s : State) : KeepsTracker s (execEarthSwitchClosed f s) := by
  unfold execEarthSwitchClosed
  split <;> simp [State.showEarth]

theorem execEarthSwitchOpened_keepsTracker (f : Feeder) (s : State) : KeepsTracker s (execEarthSwitchOpened f s) := by
  unfold execEarthSwitchOpened
  split <;> simp [State.showEarth]

theorem execSelectorChange_keepsTracker (pos : Selector) (s : State) : KeepsTracker s (execSelectorChange pos s) := by
  unfold execSelectorChange
  split <;> simp

/-! ## The peer links (08) -/

@[simp] theorem State.countBad_tracker (s : State) (l : Link) : (s.countBad l).tracker = s.tracker := rfl

@[simp] theorem State.countIgnored_tracker (s : State) (l : Link) : (s.countIgnored l).tracker = s.tracker := rfl

@[simp] theorem State.restartLoss_tracker (s : State) (l : Link) : (s.restartLoss l).tracker = s.tracker := rfl

@[simp] theorem State.linkEntry_tracker (s : State) (l : Link) (v : Int) : (s.linkEntry l v).tracker = s.tracker :=
  s.append_tracker _ _ _ _

theorem State.takeSummaries_tracker (s : State) (l : Link) (v : Vector Summary 4) :
    (s.takeSummaries l v).tracker = s.tracker := by
  refine foldl_tracker (fun s i => ?_) indices s
  dsimp only
  split <;> simp

theorem State.evaluateSection_tracker (s : State) (l : Link) (v : Vector Summary 4) (f : Feeder) :
    (s.evaluateSection l v f).tracker = s.tracker := by
  unfold State.evaluateSection
  split
  · split <;> simp
  · rfl

@[simp] theorem State.handleStatus_tracker (s : State) (l : Link) (v : Vector Summary 4) :
    (s.handleStatus l v).tracker = s.tracker := by
  calc (s.handleStatus l v).tracker
      = (((s.takeSummaries l v).sectionsOf l).foldl (fun s f => s.evaluateSection l v f) (s.takeSummaries l v)).tracker :=
        foldl_tracker (fun s f => s.askFor_tracker f _) _ _
    _ = (s.takeSummaries l v).tracker := foldl_tracker (fun s f => s.evaluateSection_tracker l v f) _ _
    _ = s.tracker := s.takeSummaries_tracker l v

@[simp] theorem State.takeStatus_tracker (s : State) (l : Link) (v : Vector Summary 4) :
    (s.takeStatus l v).tracker = s.tracker := by
  unfold State.takeStatus
  split
  · rw [State.linkEntry_tracker, State.modLink_tracker]
  · dsimp only
    rw [State.linkEntry_tracker, State.handleStatus_tracker, State.modLink_tracker]
  · exact s.handleStatus_tracker l v

@[simp] theorem State.takeTripAck_tracker (s : State) (l : Link) (i : Index) (id : Byte) :
    (s.takeTripAck l i id).tracker = s.tracker := by
  unfold State.takeTripAck
  split
  · rfl
  · split <;> simp

@[simp] theorem State.intertripFeeder_tracker (s : State) (f : Feeder) (id : Byte) :
    (s.intertripFeeder f id).tracker = s.tracker := by
  unfold State.intertripFeeder
  split <;> simp

@[simp] theorem State.takeTripReq_tracker (s : State) (l : Link) (i : Index) (id : Byte) :
    (s.takeTripReq l i id).tracker = s.tracker := by
  unfold State.takeTripReq
  split
  · simp
  · dsimp only
    split <;> simp

theorem State.takeFor_tracker (s : State) (l : Link) (i : Index) {act : State → Feeder → State}
    (h : ∀ s f, (act s f).tracker = s.tracker) : (s.takeFor l i act).tracker = s.tracker := by
  unfold State.takeFor
  split
  · simp
  · split <;> simp [h]

theorem State.restoredFeeder_tracker (s : State) (f : Feeder) : (s.restoredFeeder f).tracker = s.tracker := by
  unfold State.restoredFeeder
  dsimp only
  split_ifs <;> simp

theorem State.lockoutNotice_tracker (s : State) (f : Feeder) : (s.lockoutNotice f).tracker = s.tracker := by
  simp [State.lockoutNotice]

@[simp] theorem State.takeFrame_tracker (s : State) (l : Link) (x : PeerFrame) : (s.takeFrame l x).tracker = s.tracker := by
  cases x with
  | status v => exact s.takeStatus_tracker l v
  | tripReq i id => exact s.takeTripReq_tracker l i id
  | tripAck i id => exact s.takeTripAck_tracker l i id
  | restored i => exact s.takeFor_tracker l i State.restoredFeeder_tracker
  | lockout i => exact s.takeFor_tracker l i State.lockoutNotice_tracker
  | blockAdd i t => exact s.takeFor_tracker l i fun s f => s.addPeer_tracker f t
  | blockDel i t => exact s.takeFor_tracker l i fun s f => s.delPeer_tracker f t
  | blockSet i ts => exact s.takeFor_tracker l i fun s f => s.replacePeers_tracker f ts

@[simp] theorem State.receive_tracker (s : State) (l : Link) (x : PeerFrame) : (s.receive l x).tracker = s.tracker := by
  unfold State.receive
  split_ifs <;> simp

theorem receive_keepsTracker (s : State) (l : Link) (x : PeerFrame) : KeepsTracker s (.next (s.receive l x)) :=
  (keepsTracker_next _ _).mpr (s.receive_tracker l x)

theorem execBadFrame_keepsTracker (l : Link) (rx : Reception) (s : State) : KeepsTracker s (execBadFrame l rx s) := by
  unfold execBadFrame
  split <;> simp

@[simp] theorem State.transmitFrom_tracker (s : State) (l : Link) (xs : List Frame) :
    (s.transmitFrom l xs).tracker = s.tracker := by
  induction xs with
  | nil => rfl
  | cons x xs ih =>
    unfold State.transmitFrom
    split
    · rfl
    · exact ih

theorem execFrameTransmit_keepsTracker (l : Link) (s : State) : KeepsTracker s (execFrameTransmit l s) := by
  unfold execFrameTransmit
  split <;> simp

theorem execHeartbeatExpiry_keepsTracker (l : Link) (s : State) : KeepsTracker s (execHeartbeatExpiry l s) := by
  unfold execHeartbeatExpiry
  split <;> simp

theorem State.loseIntertrip_tracker (s : State) (l : Link) (i : Index) : (s.loseIntertrip l i).tracker = s.tracker := by
  unfold State.loseIntertrip
  split <;> simp

theorem State.loseSection_tracker (s : State) (f : Feeder) : (s.loseSection f).tracker = s.tracker :=
  s.setCoordination_tracker f _ _

@[simp] theorem State.loseLink_tracker (s : State) (l : Link) : (s.loseLink l).tracker = s.tracker := by
  simp [State.loseLink, foldl_tracker State.loseSection_tracker,
    foldl_tracker fun (s : State) i => s.loseIntertrip_tracker l i]

theorem execLossTimerExpiry_keepsTracker (l : Link) (s : State) : KeepsTracker s (execLossTimerExpiry l s) := by
  unfold execLossTimerExpiry
  split_ifs <;> simp

theorem execRefreshExpiry_keepsTracker (l : Link) (s : State) : KeepsTracker s (execRefreshExpiry l s) := by
  unfold execRefreshExpiry
  split
  · simp
  · rw [keepsTracker_next]
    exact foldl_tracker (fun s f => s.askFor_tracker f _) _ _

@[simp] theorem State.retryIntertrip_tracker (s : State) (l : Link) (i : Index) (o : Outstanding) :
    (s.retryIntertrip l i o).tracker = s.tracker := by
  unfold State.retryIntertrip
  split <;> simp

theorem execRetryExpiry_keepsTracker (l : Link) (i : Index) (s : State) : KeepsTracker s (execRetryExpiry l i s) := by
  unfold execRetryExpiry
  split
  · simp
  · rw [keepsTracker_next]
    split <;> simp

theorem execResetSilenceEnd_keepsTracker (l : Link) (s : State) : KeepsTracker s (execResetSilenceEnd l s) := by
  unfold execResetSilenceEnd
  split <;> simp

/-! ## The ports (10) -/

@[simp] theorem State.raiseSelect_tracker (s : State) (p : Port) : (s.raiseSelect p).tracker = s.tracker := rfl

@[simp] theorem State.lowerSelect_tracker (s : State) (p : Port) : (s.lowerSelect p).tracker = s.tracker := rfl

@[simp] theorem State.firstByte_tracker (s : State) (p : Port) : (s.firstByte p).tracker = s.tracker := rfl

@[simp] theorem State.receiveBytes_tracker (s : State) (p : Port) (bytes : List Byte) :
    (s.receiveBytes p bytes).tracker = s.tracker := by
  unfold State.receiveBytes
  split <;> simp

@[simp] theorem State.receiveRequest_tracker (s : State) (p : Port) (req : List Byte) :
    (s.receiveRequest p req).tracker = s.tracker := by
  unfold State.receiveRequest
  dsimp only
  split_ifs <;> simp

theorem execSelectLow_keepsTracker (p : Port) (bytes : List Byte) (s : State) :
    KeepsTracker s (execSelectLow p bytes s) := by
  unfold execSelectLow
  split <;> simp

theorem execSelectRaised_keepsTracker (p : Port) (s : State) : KeepsTracker s (execSelectRaised p s) := by
  unfold execSelectRaised
  split <;> simp

@[simp] theorem State.refuse_state (s : State) (r : Result) : (s.refuse r).state = s := rfl

@[simp] theorem State.answer_state (s : State) (data : List Byte) : (s.answer data).state = s := rfl

@[simp] theorem State.accept_state (s : State) : s.accept.state = s := rfl

/-- A judgement that leaves the tracker alone in every state. -/
def JudgeKeepsTracker (judge : State → Reply) : Prop := ∀ s, (judge s).state.tracker = s.tracker

theorem State.serve_tracker (s : State) (p : Port) (c : Instr) {judge : State → Reply} (h : JudgeKeepsTracker judge) :
    (s.serve p c judge).tracker = s.tracker :=
  (h _).trans (s.receiveRequest_tracker p _)

theorem serve_keepsTracker (s : State) (p : Port) (c : Instr) {judge : State → Reply} (h : JudgeKeepsTracker judge) :
    KeepsTracker s (.next (s.serve p c judge)) :=
  (keepsTracker_next _ _).mpr (s.serve_tracker p c h)

theorem serve_settle_keepsTracker (s : State) (p : Port) (c : Instr) {judge : State → Reply} (h : JudgeKeepsTracker judge) :
    KeepsTracker s (.next (s.serve p c judge).settle) :=
  (keepsTracker_next _ _).mpr ((State.settle_tracker _).trans (s.serve_tracker p c h))

/-- A read answers with data and changes nothing. -/
theorem judgeKeepsTracker_answer (data : State → List Byte) : JudgeKeepsTracker fun s => s.answer (data s) := fun _ => rfl

theorem JudgeKeepsTracker.authorised {judge : State → Reply} (h : JudgeKeepsTracker judge) (p : Port) :
    JudgeKeepsTracker fun s => s.authorised p (judge s) := by
  intro s
  dsimp only [State.authorised]
  split
  · exact h s
  · rfl

theorem judgeKeepsTracker_forFeeder (b : Byte) {act : State → Feeder → Reply}
    (h : ∀ s f, (act s f).state.tracker = s.tracker) : JudgeKeepsTracker fun s => s.forFeeder b (act s) := by
  intro s
  dsimp only [State.forFeeder]
  split
  · exact h s _
  · rfl

theorem State.attach_tracker (p : Port) : JudgeKeepsTracker fun s => s.attach p := by
  intro s
  dsimp only [State.attach]
  split <;> simp

theorem State.detach_tracker (p : Port) : JudgeKeepsTracker fun s => s.detach p := by
  intro s
  dsimp only [State.detach]
  split <;> simp

theorem State.fetch_tracker (p : Port) : JudgeKeepsTracker fun s => s.fetch p := by
  intro s
  dsimp only [State.fetch]
  split <;> simp

theorem State.setMask_tracker (p : Port) (mask : Byte) : JudgeKeepsTracker fun s => s.setMask p mask := by
  intro s
  dsimp only [State.setMask]
  split <;> simp

theorem State.readRecord_tracker (slot first count : Nat) : JudgeKeepsTracker fun s => s.readRecord slot first count := by
  intro s
  dsimp only [State.readRecord]
  split_ifs <;> rfl

theorem State.readSetting_tracker (id : Nat) : JudgeKeepsTracker fun s => s.readSetting id := by
  intro s
  dsimp only [State.readSetting]
  split <;> rfl

theorem State.readLink_tracker (link : Byte) : JudgeKeepsTracker fun s => s.readLink link := by
  intro s
  dsimp only [State.readLink]
  split <;> rfl

theorem State.closeFeeder_tracker (s : State) (f : Feeder) : (s.closeFeeder f).state.tracker = s.tracker := by
  unfold State.closeFeeder
  dsimp only
  split_ifs <;> simp

theorem State.openFeeder_tracker (s : State) (f : Feeder) : (s.openFeeder f).state.tracker = s.tracker := by
  unfold State.openFeeder
  split <;> simp

theorem State.resetFeeder_tracker (s : State) (f : Feeder) : (s.resetFeeder f).state.tracker = s.tracker := by
  unfold State.resetFeeder
  split_ifs <;> simp

theorem State.startRectifier_tracker : JudgeKeepsTracker State.startRectifier := by
  intro s
  unfold State.startRectifier
  split_ifs <;> simp

theorem State.stopRectifier_tracker : JudgeKeepsTracker State.stopRectifier := by
  intro s
  unfold State.stopRectifier
  split
  case h_4 =>
    split
    · split <;> simp
    · simp
  case h_5 => split <;> simp
  all_goals simp

theorem State.resetRectifier_tracker : JudgeKeepsTracker State.resetRectifier := by
  intro s
  unfold State.resetRectifier
  split_ifs <;> simp

theorem State.gateTest_tracker (repeats skip : Nat) : JudgeKeepsTracker fun s => s.gateTest repeats skip := by
  intro s
  dsimp only [State.gateTest]
  split_ifs <;> simp [State.beginGateTest]

theorem State.placeBlock_tracker (s : State) (p : Port) (tag : Tag) (openFirst : Byte) (f : Feeder) :
    (s.placeBlock p tag openFirst f).state.tracker = s.tracker := by
  unfold State.placeBlock
  split_ifs <;> simp [State.placeEntry]

theorem State.removeBlock_tracker (s : State) (p : Port) (tag : Tag) (f : Feeder) :
    (s.removeBlock p tag f).state.tracker = s.tracker := by
  unfold State.removeBlock
  split_ifs <;> simp

theorem State.releaseHold_tracker (p : Port) : JudgeKeepsTracker fun s => s.releaseHold p := by
  intro s
  dsimp only [State.releaseHold]
  split <;> simp

@[simp] theorem State.reformAlpha_tracker (s : State) (n : SettingName) : (s.reformAlpha n).tracker = s.tracker := by
  unfold State.reformAlpha
  extract_lets limited
  have hlimited : limited.tracker = s.tracker := by
    simp only [limited]
    split <;> simp
  split <;> simp [hlimited]

@[simp] theorem State.settingEffects_tracker (s : State) (n : SettingName) : (s.settingEffects n).tracker = s.tracker := by
  unfold State.settingEffects
  split_ifs <;> simp

@[simp] theorem State.storeSetting_tracker (s : State) (p : Port) (id : Nat) (n : SettingName) (v : Int) :
    (s.storeSetting p id n v).tracker = s.tracker := by
  simp [State.storeSetting]

@[simp] theorem State.writeDone_tracker (s : State) (n : SettingName) (limited : Bool) (r : Result) :
    (s.writeDone n limited r).state.tracker = s.tracker :=
  s.onsetIf_tracker limited _

@[simp] theorem State.writeValue_tracker (s : State) (p : Port) (id : Nat) (n : SettingName) (v : Int) (limited : Bool) :
    (s.writeValue p id n v limited).state.tracker = s.tracker := by
  unfold State.writeValue
  split_ifs <;> simp

theorem State.writeSetting_tracker (s : State) (p : Port) (id : Nat) (v : Int) :
    (s.writeSetting p id v).state.tracker = s.tracker := by
  unfold State.writeSetting
  split
  · rfl
  · dsimp only
    split_ifs <;> simp

theorem execResetLockoutFeeder_keepsTracker (p : Port) (target : Byte) (s : State) :
    KeepsTracker s (execResetLockoutFeeder p target s) := by
  refine serve_keepsTracker s p _ (JudgeKeepsTracker.authorised (fun t => ?_) p)
  split
  · exact t.resetRectifier_tracker
  · exact judgeKeepsTracker_forFeeder target State.resetFeeder_tracker t

theorem execWriteSetting_keepsTracker (p : Port) (id : Byte) (value : BitVec 32) (s : State) :
    KeepsTracker s (execWriteSetting p id value s) := by
  refine serve_keepsTracker s p _ fun t => ?_
  split
  · exact t.writeSetting_tracker p _ _
  · rfl

/-! ## Every command but those of the tracker and the resets -/

/-- The commands that act on the tracker: the crossing, its three deadlines, and the resets (02 R19 to R25, R29). -/
def actsOnTracker : Instr → Bool
  | .powerOnReset _ | .warmReset _ | .crossing _ | .acquireDeadlineExpiry | .lockedDeadlineExpiry
  | .holdoverDeadlineExpiry => true
  | _ => false

theorem exec_keepsTracker (c : Instr) (s : State) (h : actsOnTracker c = false) : KeepsTracker s (exec c s) := by
  cases c with
  | powerOnReset | warmReset | crossing | acquireDeadlineExpiry | lockedDeadlineExpiry | holdoverDeadlineExpiry =>
    cases h
  | sampleSetArrival bytes => exact execSampleSetArrival_keepsTracker bytes s
  | sampleWatchdogExpiry => exact execSampleWatchdogExpiry_keepsTracker s
  | blindTimerExpiry => exact execBlindTimerExpiry_keepsTracker s
  | gatePulseStart g => exact execGatePulseStart_keepsTracker g s
  | gatePulseEnd g => exact execGatePulseEnd_keepsTracker g s
  | gateFeedback g => exact execGateFeedback_keepsTracker g s
  | startRectifier p => exact serve_keepsTracker s p _ (State.startRectifier_tracker.authorised p)
  | stopRectifier p => exact serve_keepsTracker s p _ State.stopRectifier_tracker
  | restartWindowExpiry => exact execRestartWindowExpiry_keepsTracker s
  | resetLockoutRectifier p => exact serve_keepsTracker s p _ (State.resetRectifier_tracker.authorised p)
  | resetLockoutFeeder p target => exact execResetLockoutFeeder_keepsTracker p target s
  | acBreakerOpen => exact execAcBreakerOpen_keepsTracker s
  | acBreakerClosed => exact execAcBreakerClosed_keepsTracker s
  | eoffAsserted => exact execEoffAsserted_keepsTracker s
  | eoffReleased => exact execEoffReleased_keepsTracker s
  | gateTest p repeats skip => exact serve_keepsTracker s p _ ((State.gateTest_tracker _ _).authorised p)
  | gateTestStepEnd => exact execGateTestStepEnd_keepsTracker s
  | gateTestDriveEnd => exact execGateTestDriveEnd_keepsTracker s
  | breakerPositionOpen f => exact execBreakerPositionOpen_keepsTracker f s
  | breakerPositionClosed f => exact execBreakerPositionClosed_keepsTracker f s
  | deadTimeExpiry f => exact execDeadTimeExpiry_keepsTracker f s
  | closeSupervisionExpiry f => exact execCloseSupervisionExpiry_keepsTracker f s
  | reclaimExpiry f => exact execReclaimExpiry_keepsTracker f s
  | followWaitExpiry f => exact execFollowWaitExpiry_keepsTracker f s
  | tripSupervisionExpiry f => exact execTripSupervisionExpiry_keepsTracker f s
  | closeFeeder p feeder =>
    exact serve_settle_keepsTracker s p _ ((judgeKeepsTracker_forFeeder feeder State.closeFeeder_tracker).authorised p)
  | openFeeder p feeder =>
    exact serve_settle_keepsTracker s p _ (judgeKeepsTracker_forFeeder feeder State.openFeeder_tracker)
  | lineTestExpiry => exact execLineTestExpiry_keepsTracker s
  | placeBlock p sec tag openFirst =>
    exact serve_settle_keepsTracker s p _ (judgeKeepsTracker_forFeeder sec fun s f => s.placeBlock_tracker p tag openFirst f)
  | removeBlock p sec tag =>
    exact serve_keepsTracker s p _ (judgeKeepsTracker_forFeeder sec fun s f => s.removeBlock_tracker p tag f)
  | earthSwitchClosed f => exact execEarthSwitchClosed_keepsTracker f s
  | earthSwitchOpened f => exact execEarthSwitchOpened_keepsTracker f s
  | selectorChange pos => exact execSelectorChange_keepsTracker pos s
  | releaseHold p => exact serve_keepsTracker s p _ ((State.releaseHold_tracker p).authorised p)
  | status l v => exact receive_keepsTracker s l _
  | tripReq l i id => exact receive_keepsTracker s l _
  | tripAck l i id => exact receive_keepsTracker s l _
  | restored l i => exact receive_keepsTracker s l _
  | lockout l i => exact receive_keepsTracker s l _
  | blockAdd l i tag => exact receive_keepsTracker s l _
  | blockDel l i tag => exact receive_keepsTracker s l _
  | blockSet l i tags => exact receive_keepsTracker s l _
  | badFrame l rx => exact execBadFrame_keepsTracker l rx s
  | frameTransmit l => exact execFrameTransmit_keepsTracker l s
  | heartbeatExpiry l => exact execHeartbeatExpiry_keepsTracker l s
  | lossTimerExpiry l => exact execLossTimerExpiry_keepsTracker l s
  | refreshExpiry l => exact execRefreshExpiry_keepsTracker l s
  | retryExpiry l i => exact execRetryExpiry_keepsTracker l i s
  | resetSilenceEnd l => exact execResetSilenceEnd_keepsTracker l s
  | attachJournal p => exact serve_keepsTracker s p _ (State.attach_tracker p)
  | detachJournal p => exact serve_keepsTracker s p _ (State.detach_tracker p)
  | fetchEvent p => exact serve_keepsTracker s p _ (State.fetch_tracker p)
  | setAttentionMask p mask => exact serve_keepsTracker s p _ (State.setMask_tracker p mask)
  | readJournalState p => exact serve_keepsTracker s p _ (judgeKeepsTracker_answer State.journalBytes)
  | readRecord p slot first count => exact serve_keepsTracker s p _ (State.readRecord_tracker _ _ _)
  | selectLow p bytes => exact execSelectLow_keepsTracker p bytes s
  | selectRaised p => exact execSelectRaised_keepsTracker p s
  | unknownCommand p code => exact serve_keepsTracker s p _ fun _ => rfl
  | readStatus p => exact serve_keepsTracker s p _ (judgeKeepsTracker_answer fun s => s.statusBytes p)
  | readConditions p => exact serve_keepsTracker s p _ fun _ => rfl
  | readMeasurements p => exact serve_keepsTracker s p _ (judgeKeepsTracker_answer State.measurementBytes)
  | readFeeder p feeder => exact serve_keepsTracker s p _ (judgeKeepsTracker_forFeeder feeder fun _ _ => rfl)
  | readSection p sec => exact serve_keepsTracker s p _ (judgeKeepsTracker_forFeeder sec fun _ _ => rfl)
  | readRectifier p => exact serve_keepsTracker s p _ (judgeKeepsTracker_answer State.rectBytes)
  | readTracker p => exact serve_keepsTracker s p _ (judgeKeepsTracker_answer State.trackerBytes)
  | readLink p link => exact serve_keepsTracker s p _ (State.readLink_tracker link)
  | readSetting p id => exact serve_keepsTracker s p _ (State.readSetting_tracker _)
  | writeSetting p id value => exact execWriteSetting_keepsTracker p id value s

/-- On an empty queue the tracker does not move: its deadlines join the queue, and a tick leaves it alone (log 1). -/
theorem State.idle_tracker (s : State) : s.idle.tracker = s.tracker := by
  unfold State.idle
  split
  · simp
  · split <;> rfl

/-! ## The period estimate under the commands of the tracker (02 R19 to R25, R29) -/

/-- P, when present, lies within its range (02 R16). -/
def Tracker.PeriodInRange (k : Tracker) : Prop := ∀ p, k.period = some p → Config.periodMin ≤ p ∧ p ≤ Config.periodMax

theorem Tracker.PeriodInRange.of_eq {k j : Tracker} (h : k.PeriodInRange) (heq : j.period = k.period) :
    j.PeriodInRange := fun p hp => h p (heq ▸ hp)

theorem Tracker.periodInRange_of_none {k : Tracker} (h : k.period = none) : k.PeriodInRange :=
  fun p hp => by rw [h] at hp; cases hp

theorem Tracker.periodInRange_of_some {k : Tracker} {q : Int} (h : k.period = some q)
    (hq : Config.periodMin ≤ q ∧ q ≤ Config.periodMax) : k.PeriodInRange :=
  fun p hp => by rw [h] at hp; cases hp; exact hq

@[simp] theorem State.handOn_tracker (s : State) (x : Option Instant) : (s.handOn x).tracker = s.tracker :=
  s.notice_tracker _

@[simp] theorem State.reportSync_tracker (s : State) (was : TrackerState) (c : SyncChange) (v : Int) (x : Option Instant) :
    (s.reportSync was c v x).tracker = s.tracker := by
  simp [State.reportSync]

/-- In ACQUIRE, P becomes a measured period that has passed the range test, or the corrected estimate (02 R20). -/
theorem State.crossAcquire_periodInRange (s : State) (t : Stamp) (measured : Nat) (h : s.tracker.PeriodInRange) :
    (s.crossAcquire t measured).tracker.PeriodInRange := by
  have hcorrected := s.correction_mem measured
  unfold State.crossAcquire
  extract_lets d e p
  split
  next => exact h
  next hrange =>
    split
    next => exact Tracker.periodInRange_of_some rfl (by omega)
    next =>
      split
      next =>
        split
        next => exact Tracker.periodInRange_of_some (by simp [State.completeLock, p]) hcorrected
        next => exact Tracker.periodInRange_of_some rfl hcorrected
      next => exact Tracker.periodInRange_of_some rfl hcorrected

/-- In LOCKED, P is corrected, or kept on a slip (02 R22). -/
theorem State.crossLocked_periodInRange (s : State) (t : Stamp) (measured : Nat) (h : s.tracker.PeriodInRange) :
    (s.crossLocked t measured).tracker.PeriodInRange := by
  unfold State.crossLocked
  dsimp only
  split
  next => exact Tracker.periodInRange_of_some (by simp) (s.correction_mem measured)
  next => exact h.of_eq (by simp)

/-- In HOLDOVER, P is corrected, or kept on a return to ACQUIRE (02 R25). -/
theorem State.crossHoldover_periodInRange (s : State) (t : Stamp) (measured : Nat) (h : s.tracker.PeriodInRange) :
    (s.crossHoldover t measured).tracker.PeriodInRange := by
  unfold State.crossHoldover
  dsimp only
  split
  next => exact Tracker.periodInRange_of_some (by simp) (s.correction_mem measured)
  next => exact h.of_eq (by simp)

theorem State.acceptCrossing_periodInRange (s : State) (t : Stamp) (measured : Nat) (h : s.tracker.PeriodInRange) :
    (s.acceptCrossing t measured).tracker.PeriodInRange := by
  unfold State.acceptCrossing
  extract_lets u
  have hu : u.tracker.PeriodInRange := h
  split
  next => exact hu.of_eq (by simp [State.crossUnsync])
  next => exact u.crossAcquire_periodInRange t measured hu
  next => exact u.crossLocked_periodInRange t measured hu
  next => exact u.crossHoldover_periodInRange t measured hu

/-- A glitch leaves P alone; any other crossing is accepted (02 R15). -/
theorem execCrossing_periodInRange {s t : State} (width : Nat) (h : s.tracker.PeriodInRange)
    (hnext : execCrossing width s = .next t) : t.tracker.PeriodInRange := by
  unfold execCrossing at hnext
  dsimp only at hnext
  split at hnext
  next => cases hnext; exact h
  next => cases hnext; exact s.acceptCrossing_periodInRange _ _ h

theorem State.toUnsync_period (s : State) (c : SyncChange) : (s.toUnsync c).tracker.period = s.tracker.period := by
  simp [State.toUnsync]

theorem State.lockedExpires_period (s : State) : s.lockedExpires.tracker.period = s.tracker.period := by
  unfold State.lockedExpires
  split
  · simp [State.placeSynthetic]
  · exact s.toUnsync_period _

theorem State.holdoverExpires_period (s : State) : s.holdoverExpires.tracker.period = s.tracker.period := by
  unfold State.holdoverExpires
  split
  · simp [State.placeSynthetic]
  · exact s.toUnsync_period _

/-- A deadline keeps P where its rule does (02 R21, R23, R24). -/
theorem State.onDeadline_period (s : State) (st : TrackerState) {act : State → State}
    (h : (act s).tracker.period = s.tracker.period) : (s.onDeadline st act).tracker.period = s.tracker.period := by
  unfold State.onDeadline
  split
  · exact h
  · rfl

theorem State.judgeFound_tracker (s : State) (f : Feeder) : (s.judgeFound f).tracker = s.tracker := by
  unfold State.judgeFound
  split <;> simp

/-- A reset leaves the tracker in its reset state, with the P that it is given (02 R29). -/
theorem State.resetFrom_tracker (k : State) (inp : Inputs) (kind : Detail) :
    (k.resetFrom inp kind).tracker = Tracker.reset k.tracker.period :=
  foldl_tracker State.judgeFound_tracker feeders (k.resetUnits inp kind)

/-- A power-on reset leaves P absent (02 R29). -/
theorem execPowerOnReset_period {inp : Inputs} {s t : State} (hnext : execPowerOnReset inp s = .next t) :
    t.tracker.period = none := by
  rw [execPowerOnReset, Host.Outcome.next.injEq] at hnext
  rw [← hnext, State.resetFrom_tracker]
  rfl

/-- A warm reset keeps P (02 R29). -/
theorem execWarmReset_period {inp : Inputs} {s t : State} (hnext : execWarmReset inp s = .next t) :
    t.tracker.period = s.tracker.period := by
  rw [execWarmReset, Host.Outcome.next.injEq] at hnext
  rw [← hnext, State.resetFrom_tracker]
  rfl

/-! ## Every step keeps the period estimate in range (02 R16) -/

theorem exec_periodInRange {c : Instr} {s t : State} (h : s.tracker.PeriodInRange) (hnext : exec c s = .next t) :
    t.tracker.PeriodInRange := by
  cases hc : actsOnTracker c with
  | false => exact exec_keepsTracker c s hc t hnext ▸ h
  | true =>
    cases c with
    | crossing width => exact execCrossing_periodInRange width h hnext
    | acquireDeadlineExpiry => cases hnext; exact h.of_eq (s.onDeadline_period _ (s.toUnsync_period _))
    | lockedDeadlineExpiry => cases hnext; exact h.of_eq (s.onDeadline_period _ s.lockedExpires_period)
    | holdoverDeadlineExpiry => cases hnext; exact h.of_eq (s.onDeadline_period _ s.holdoverExpires_period)
    | powerOnReset inp => exact Tracker.periodInRange_of_none (execPowerOnReset_period hnext)
    | warmReset inp => exact h.of_eq (execWarmReset_period hnext)
    | _ => cases hc

/-- Settles O16: a step runs one command, or leaves the tracker alone on an empty queue. -/
theorem periodEstimateStaysInRange : Obligations.PeriodEstimateStaysInRange := by
  intro s t h hstep
  have hs : s.tracker.PeriodInRange := h
  suffices ht : t.tracker.PeriodInRange from ht
  unfold step at hstep
  split at hstep
  next =>
    cases hstep
    exact s.idle_tracker ▸ hs
  next c rest _ => exact exec_periodInRange (s := { s with pending := rest }) hs hstep

end Sys2Proof.Machine
end

section
/-! PROOFS. The rectifier controller's commands (03): the firing schedule, the outputs that follow the state, block
requests, and the judgement of START_RECTIFIER, STOP_RECTIFIER and RESET_LOCKOUT. -/

namespace Sys2Proof.Machine

/-! ## The firing schedule (03 R43) -/

theorem firingPhase_eq (alpha phaseRef : Int) (k : Gate) :
    firingPhase alpha phaseRef k =
      (alpha + (if 6 ≤ k.val then 300 else 0) + ((k.val % 6 : Nat) : Int) * 600 + phaseRef) % 3600 := by
  have hgroup : (if k.val < 6 then 0 else 300 : Int) = if 6 ≤ k.val then 300 else 0 := by
    split_ifs <;> omega
  rw [firingPhase, hgroup]

/-- Settles O18: the schedule holds the pulses that are not late, at the firing phase of their gate. -/
theorem periodIsScheduled : Obligations.PeriodIsScheduled := by
  intro s per
  simp only [← firingPhase_eq]
  rfl

/-! ## The outputs that follow the state (03 R39, R49; 05 R79; 06 R104) -/

theorem State.acTrip_iff (s : State) :
    s.acTrip = true ↔ s.inputs.eoff = true ∨ s.rect.demandBus = true ∨ s.rect.demandBreaker = true := by
  simp only [State.acTrip, Bool.or_eq_true, or_assoc]

theorem MeasState.eq_live_iff (m : MeasState) : m = .live ↔ m ≠ .blind := by
  cases m <;> decide

theorem State.absorberOut_iff (s : State) :
    s.absorberOut = true ↔
      s.rect.absDemand = true ∧ s.sample.state ≠ .blind ∧ s.inputs.eoff = false ∧ s.rect.hot = false := by
  simp only [State.absorberOut, MeasState.eq_live_iff, Bool.and_eq_true, decide_eq_true_eq, Bool.not_eq_true', and_assoc]

theorem State.closeCoil_iff (s : State) (f : Feeder) : s.closeCoil f = true ↔ s.ctx[f].state = .closing :=
  decide_eq_true_iff

theorem State.tripCoil_iff (s : State) (f : Feeder) :
    s.tripCoil f = true ↔ s.ctx[f].state = .tripping ∨ s.ctx[f].state = .stuck := by
  simp only [State.tripCoil, Bool.or_eq_true, decide_eq_true_eq]
  rfl

theorem State.contactor_iff (s : State) (f : Feeder) : s.contactor f = true ↔ s.lineTest.tested = some f :=
  decide_eq_true_iff

/-- Settles O28: each output is a Boolean of the state. -/
theorem outputsFollowTheState : Obligations.OutputsFollowTheState := fun s =>
  ⟨s.acTrip_iff, s.absorberOut_iff, fun f => ⟨s.closeCoil_iff f, s.tripCoil_iff f, s.contactor_iff f⟩⟩

/-! ## Lockout causes, shift ends and entries (03, 3.1; R31, R32, R53) -/

theorem any_lockout_eq (x : Option RectCause) :
    x.any RectCause.lockout =
      (x = some .busFault || x = some .breakerFail || x = some .gateFault || x = some .eoff) := by
  cases x with
  | none => rfl
  | some c => cases c <;> rfl

/-- Among the causes of a block request, EOFF being none of them, three lock the rectifier out (03 R32). -/
theorem RectCause.lockout_of_ne_eoff {c : RectCause} (h : c ≠ .eoff) :
    c.lockout = (c = .busFault || c = .breakerFail || c = .gateFault) := by
  cases c with
  | eoff => exact absurd rfl h
  | _ => rfl

theorem State.lockedOut_iff (s : State) :
    s.lockedOut = true ↔ s.rect.state = .blocked ∧ s.rect.cause.any RectCause.lockout = true := by
  simp only [State.lockedOut, Bool.and_eq_true, decide_eq_true_eq]

theorem Rectifier.demand_eq (r : Rectifier) (c : RectCause) :
    r.demand c = { r with
      demandBus := r.demandBus || decide (c = .busFault)
      demandBreaker := r.demandBreaker || decide (c = .breakerFail) } := by
  cases c <;> simp [Rectifier.demand]

/-- The RECT_STATE entry of a gate that is blamed names the gate's group and its position (03 R45, R53). -/
theorem State.rectEntry_eq (s : State) (note : RectNote) (blame : Option Gate) :
    s.rectEntry note blame = match blame with
      | none => s.append .rectState .none (.rect s.rect.state note) s.rect.alpha
      | some k => s.append .rectState (if k.val < 6 then .groupA else .groupB) (.rect s.rect.state note)
          (((k.val % 6 : Nat) : Int) + 1) := by
  cases blame <;> rfl

theorem ShiftEnd.soft_blocked (c : RectCause) : ShiftEnd.soft (some (.blocked c)) = !c.lockout := rfl

/-! ## Block requests (03 R32) -/

/-- A block request is its table, and then its cause joins the AC trip demands. -/
theorem State.blockRequest_eq (s : State) (c : RectCause) (blame : Option Gate) :
    s.blockRequest c blame = { s.blockState c blame with
      rect := { (s.blockState c blame).rect with
        demandBus := (s.blockState c blame).rect.demandBus || decide (c = .busFault)
        demandBreaker := (s.blockState c blame).rect.demandBreaker || decide (c = .breakerFail) } } := by
  rw [State.blockRequest, State.modRect, Rectifier.demand_eq]

/-! The table in the states where more than the request decides. -/

theorem State.blockState_of_firing {s : State} (h : s.rect.state = .starting ∨ s.rect.state = .running) (c : RectCause)
    (blame : Option Gate) :
    s.blockState c blame =
      if s.tracker.state = .unsync then s.enterBlocked c blame else s.beginShift (.blocked c) blame := by
  rcases h with h | h <;> (rw [State.blockState, h]; rfl)

theorem State.blockState_of_shifting {s : State} (h : s.rect.state = .shifting) (c : RectCause) (blame : Option Gate) :
    s.blockState c blame =
      if c.lockout = true ∧ (!ShiftEnd.soft s.rect.shiftEnd) = false then s.replaceEnd (.blocked c) blame else s := by
  simp only [State.blockState, h, Bool.and_eq_true, Bool.not_eq_false']

theorem State.blockState_of_blocked {s : State} (h : s.rect.state = .blocked) (c : RectCause) (blame : Option Gate) :
    s.blockState c blame =
      if c.lockout = true ∧ s.rect.cause.any RectCause.lockout = false then s.replaceCause c blame else s := by
  simp only [State.blockState, h, State.softCause, Bool.and_eq_true, Bool.not_eq_true']

/-- Settles O23: the table is `State.blockState`, whose lockout causes are the three of a block request or, where a
cause stands already, EOFF too. -/
theorem blockRequestTable : Obligations.BlockRequestTable := by
  intro s c blame hc lockout hard journal t
  have hlockout : c.lockout = lockout := RectCause.lockout_of_ne_eoff (by rintro rfl; simp at hc)
  have hhard (x : Option RectCause) : x.any RectCause.lockout = hard x := any_lockout_eq x
  have hjournal (v : State) : v.rectEntry (.cause c) blame = journal v := v.rectEntry_eq _ _
  have ht : s.blockState c blame = t := by
    unfold t
    split
    next h => rw [State.blockState, h, ← hlockout]
    next h => rw [State.blockState, h, ← hlockout]
    next h => exact State.blockState_of_firing (.inl h) c blame
    next h => exact State.blockState_of_firing (.inr h) c blame
    next h =>
      extract_lets keeps
      have hkeeps : (!ShiftEnd.soft s.rect.shiftEnd) = keeps := by
        unfold keeps
        cases s.rect.shiftEnd with
        | none => rfl
        | some e =>
          cases e with
          | stopped => rfl
          | blocked x => exact (Bool.not_not x.lockout).trans (hhard (some x))
      rw [State.blockState_of_shifting h, hlockout, hkeeps, ← hjournal]
      rfl
    next h =>
      rw [State.blockState_of_blocked h, hlockout, hhard, ← hjournal]
      rfl
  rw [s.blockRequest_eq, ht]

/-! ## Port commands are judged (10 R173, R176) -/

theorem State.authorised_eq (s : State) (p : Port) (act : Reply) :
    s.authorised p act = if s.authority ≠ p then ⟨s, .notPermitted, []⟩ else act := by
  rw [State.authorised, ite_not]
  rfl

/-! ## START_RECTIFIER (03 R30) -/

theorem exec_startRectifier (p : Port) (s : State) :
    exec (.startRectifier p) s =
      .next (((s.receiveRequest p [0x21]).authorised p (s.receiveRequest p [0x21]).startRectifier).respond p [0x21]) :=
  rfl

theorem State.gateTestMet_eq_false_iff (s : State) :
    s.gateTestMet = false ↔ s.g .gateTestRequired ≠ 0 ∧ s.rect.test.result ≠ .clean := by
  simp only [State.gateTestMet, Bool.or_eq_false_iff, decide_eq_false_iff_not, ne_eq]

theorem State.startUp_eq (s : State) (note : RectNote) :
    s.startUp note = ({ s with
      rect := { s.rect with
        state := .starting, cause := none, alpha := s.settings.alphaMax', sumV := 0, countV := 0, sumI := 0, countI := 0
        gates := Vector.ofFn fun k => { s.rect.gates[k] with miss := 0 }, shiftCount := 0, restart := none } } :
      State).append .rectState .none (.rect .starting note) s.settings.alphaMax' := rfl

/-- Settles O24: the checks are those of `State.startRectifier`, and the effects those of `State.startUp`. -/
theorem startRectifierChecks : Obligations.StartRectifierChecks := by
  intro p s u r top hard judged
  have hlocked : u.lockedOut = true ↔ r.state = .blocked ∧ hard = true := by
    rw [u.lockedOut_iff, any_lockout_eq]
  have hjudged : u.authorised p u.startRectifier = judged := by
    simp only [u.authorised_eq, State.startRectifier, hlocked, Bool.not_eq_true', u.gateTestMet_eq_false_iff,
      u.startUp_eq]
    rfl
  rw [exec_startRectifier, hjudged]

/-! ## STOP_RECTIFIER and RESET_LOCKOUT of the rectifier (03 R31, R36) -/

theorem exec_stopRectifier (p : Port) (s : State) :
    exec (.stopRectifier p) s = .next ((s.receiveRequest p [0x31]).stopRectifier.respond p [0x31]) := rfl

theorem exec_resetLockoutRectifier (p : Port) (s : State) :
    exec (.resetLockoutRectifier p) s =
      .next (((s.receiveRequest p [0x22, 0]).authorised p (s.receiveRequest p [0x22, 0]).resetRectifier).respond p
        [0x22, 0]) :=
  rfl

theorem State.stopRectifier_of_firing {s : State} (h : s.rect.state = .starting ∨ s.rect.state = .running) :
    s.stopRectifier =
      ⟨if s.tracker.state = .unsync then s.enterStopped (.cause .stop) else s.beginShift .stopped none, .accepted, []⟩ := by
  rcases h with h | h <;> (rw [State.stopRectifier, h]; rfl)

theorem State.stopRectifier_of_blocked {s : State} (h : s.rect.state = .blocked) :
    s.stopRectifier =
      if s.rect.cause.any RectCause.lockout then ⟨s, .ok, []⟩ else ⟨s.enterStopped (.cause .stop), .accepted, []⟩ := by
  simp only [State.stopRectifier, h, State.softCause, Bool.not_eq_true']
  cases s.rect.cause.any RectCause.lockout <;> rfl

/-- A shift toward a cause ends in STOPPED instead, unless the cause is a lockout. -/
theorem State.stopRectifier_of_shifting {s : State} {c : RectCause} (h : s.rect.state = .shifting)
    (he : s.rect.shiftEnd = some (.blocked c)) :
    s.stopRectifier =
      if c.lockout then ⟨s, .ok, []⟩ else ⟨s.replaceEnd .stopped none, .accepted, []⟩ := by
  rw [State.stopRectifier, h, he]
  rfl

/-- STOP_RECTIFIER changes nothing in STOPPED, or where the shift ends in STOPPED already. -/
theorem State.stopRectifier_of_stopping {s : State} (h : s.rect.state = .stopped ∨
      s.rect.state = .shifting ∧ (s.rect.shiftEnd = some .stopped ∨ s.rect.shiftEnd = none)) :
    s.stopRectifier = ⟨s, .ok, []⟩ := by
  rcases h with h | ⟨h, he | he⟩
  · rw [State.stopRectifier, h]; rfl
  · rw [State.stopRectifier, h, he]; rfl
  · rw [State.stopRectifier, h, he]; rfl

theorem State.replaceEnd_stopped {s : State} (h : s.rect.state = .shifting) :
    s.replaceEnd .stopped none =
      ({ s with rect := { s.rect with shiftEnd := some .stopped } } : State).append .rectState .none
        (.rect .shifting (.cause .stop)) s.rect.alpha := by
  rw [← h]; rfl

theorem State.resetRectifier_eq (s : State) :
    s.resetRectifier =
      if ¬ (s.rect.state = .blocked ∧ s.rect.cause.any RectCause.lockout = true) then ⟨s, .state, []⟩
      else if s.rect.cause = some .eoff ∧ s.inputs.eoff = true then ⟨s, .eoff, []⟩
      else
        ⟨({ s with rect := { s.rect with demandBus := false, demandBreaker := false } } : State).enterStopped .none,
          .accepted, []⟩ := by
  simp only [State.resetRectifier, ← s.lockedOut_iff, Bool.not_eq_true', Bool.not_eq_true, Bool.and_eq_true,
    decide_eq_true_eq]
  rfl

/-- Settles O25: STOP_RECTIFIER is judged by `State.stopRectifier`, RESET_LOCKOUT by `State.resetRectifier`. -/
theorem stopAndResetRectifier : Obligations.StopAndResetRectifier := by
  intro p s hard u stopEnd stop w reset
  have hhard (x : Option RectCause) : x.any RectCause.lockout = hard x := any_lockout_eq x
  have hstop : u.stopRectifier = stop := by
    unfold stop
    split
    next h => exact State.stopRectifier_of_stopping (.inl h)
    next h => exact State.stopRectifier_of_firing (.inl h)
    next h => exact State.stopRectifier_of_firing (.inr h)
    next h =>
      split
      next c he =>
        rw [State.stopRectifier_of_shifting h he, State.replaceEnd_stopped h, ← hhard]
        rfl
      next he => exact State.stopRectifier_of_stopping (.inr ⟨h, .inl he⟩)
      next he => exact State.stopRectifier_of_stopping (.inr ⟨h, .inr he⟩)
    next h => rw [State.stopRectifier_of_blocked h, hhard]
    next h => rw [State.stopRectifier, h]; rfl
  have hreset : w.authorised p w.resetRectifier = reset := by
    rw [w.authorised_eq, w.resetRectifier_eq, hhard]
  rw [exec_stopRectifier, hstop, exec_resetLockoutRectifier, hreset]
  exact ⟨rfl, rfl⟩

end Sys2Proof.Machine
end

section
/-! PROOFS. The three tests of a feeder's evaluation (04 R59 to R70): the action a code names, the instantaneous run,
the rise episode, and the thermal value with its two levels and the alarm standing. -/

namespace Sys2Proof.Machine

/-! ## The action a code names (04, 4.1) -/

theorem actionOf_of_ne {v : Int} (h0 : v ≠ 0) (h1 : v ≠ 1) : actionOf v = .off := by
  rw [actionOf, if_neg h0, if_neg h1]

theorem actionOf_cases (v : Int) :
    v = 0 ∧ actionOf v = .trip ∨ v = 1 ∧ actionOf v = .alarm ∨ (v ≠ 0 ∧ v ≠ 1) ∧ actionOf v = .off := by
  by_cases h0 : v = 0
  · exact .inl ⟨h0, h0 ▸ rfl⟩
  · by_cases h1 : v = 1
    · exact .inr (.inl ⟨h1, h1 ▸ rfl⟩)
    · exact .inr (.inr ⟨⟨h0, h1⟩, actionOf_of_ne h0 h1⟩)

theorem actionOf_ne_off_iff (v : Int) : (actionOf v != .off) = true ↔ v = 0 ∨ v = 1 := by
  rcases actionOf_cases v with ⟨hv, ha⟩ | ⟨hv, ha⟩ | ⟨⟨h0, h1⟩, ha⟩
  · rw [ha]; simp [hv]
  · rw [ha]; simp [hv]
  · rw [ha]; simp [h0, h1]

theorem actionOf_eq_off_iff (v : Int) : actionOf v = .off ↔ ¬ (v = 0 ∨ v = 1) := by
  rw [← actionOf_ne_off_iff, bne_iff_ne, not_not]

/-! ## The instantaneous test (04 R59, R60) -/

theorem Disc.instCount_eq (d : Disc) (st : Settings) (f : Feeder) (x : Seen) :
    d.instCount st f x =
      if (st.f f .instAction = 0 ∨ st.f f .instAction = 1) ∧ x.closed = true ∧
          x.held.any (fun v => decide (st.f f .instLevel ≤ v)) = true then
        { d with instRun := satInc 255 d.instRun }
      else { d with instRun := 0, instAlarm := false } := by
  simp only [Disc.instCount, Bool.and_eq_true, actionOf_ne_off_iff, and_assoc]

/-- Below inst_count the test only moves the run. -/
theorem Evaluation.instTest_of_lt {e : Evaluation} {st : Settings} {f : Feeder} {x : Seen}
    (h : ((e.disc.instCount st f x).instRun : Int) < st.f f .instCount) :
    e.instTest st f x = { e with disc := e.disc.instCount st f x } :=
  if_neg (not_le.mpr h)

/-- At inst_count the action decides. -/
theorem Evaluation.instTest_of_le {e : Evaluation} {st : Settings} {f : Feeder} {x : Seen} {d : Disc}
    (hd : e.disc.instCount st f x = d) (h : st.f f .instCount ≤ d.instRun) :
    e.instTest st f x =
      if st.f f .instAction = 0 then
        { e with disc := { d with instOps := satInc 65535 d.instOps }, inst := some (x.held.getD 0) }
      else if st.f f .instAction = 1 ∧ d.instAlarm = false then
        { e with
          disc := { d with instAlarm := true, instOps := satInc 65535 d.instOps }
          entries := e.entries ++ [(.alarm, .alarmInst, x.held.getD 0)] }
      else { e with disc := d } := by
  subst hd
  rw [Evaluation.instTest, if_pos h]
  rcases actionOf_cases (st.f f .instAction) with ⟨hv, ha⟩ | ⟨hv, ha⟩ | ⟨⟨h0, h1⟩, ha⟩
  · rw [ha, if_pos hv]; rfl
  · rw [ha, hv, if_neg one_ne_zero]
    cases (e.disc.instCount st f x).instAlarm <;> rfl
  · rw [ha, if_neg h0, if_neg fun h : _ ∧ _ => h1 h.1]

/-! ## The rate-of-rise test (04 R61 to R66) -/

theorem Disc.cancelEpisode_of_none {d : Disc} (h : d.episode = none) : d.cancelEpisode = d := by
  rw [Disc.cancelEpisode, h]; rfl

theorem Disc.cancelEpisode_of_some {d : Disc} {p : Episode} (h : d.episode = some p) :
    d.cancelEpisode = { d with episode := none, cancelled := satInc 65535 d.cancelled } := by
  rw [Disc.cancelEpisode, h]; rfl

/-- On a sample of an episode: it operates, or it ends at max′, or it goes on. -/
theorem Evaluation.rorSample_eq (e : Evaluation) (st : Settings) (f : Feeder) (p : Episode) :
    e.rorSample st f p =
      if st.f f .rorDelta ≤ p.rise ∧ st.f f .rorMinLen ≤ p.length then
        let o : Disc := { e.disc with episode := none, rorOps := satInc 65535 e.disc.rorOps }
        if st.f f .rorAction = 0 then { e with disc := o, ror := some p.rise }
        else { e with disc := o, entries := e.entries ++ [(.alarm, .alarmRor, p.rise)] }
      else if max (st.f f .rorMaxLen) (st.f f .rorMinLen) ≤ p.length then { e with disc := e.disc.endEpisode p }
      else { e with disc := { e.disc with episode := some p } } := by
  rw [Evaluation.rorSample, Settings.max']
  rcases actionOf_cases (st.f f .rorAction) with ⟨hv, ha⟩ | ⟨hv, ha⟩ | ⟨⟨h0, -⟩, ha⟩
  · rw [ha, hv]; rfl
  · rw [ha, hv]; rfl
  · rw [ha]; simp only [if_neg h0]; rfl

theorem Evaluation.rorDifference_of_none {e : Evaluation} (h : e.disc.episode = none) (st : Settings) (f : Feeder)
    (prev i : Int) :
    e.rorDifference st f prev i =
      if e.disc.blank = 0 ∧ st.f f .rorStart ≤ i - prev then e.rorSample st f ⟨prev, 1, i - prev⟩ else e := by
  rw [Evaluation.rorDifference, h]

theorem Evaluation.rorDifference_of_some {e : Evaluation} {p : Episode} (h : e.disc.episode = some p) (st : Settings)
    (f : Feeder) (prev i : Int) :
    e.rorDifference st f prev i =
      if min (st.f f .rorCont) (st.f f .rorStart) ≤ i - prev then
        e.rorSample st f ⟨p.base, p.length + 1, i - p.base⟩
      else { e with disc := e.disc.endEpisode p } := by
  rw [Evaluation.rorDifference, h]; rfl

theorem Evaluation.rorTest_of_some {e : Evaluation} {x : Seen} {prev i : Int} (hp : e.disc.prev = some prev)
    (hi : x.held = some i) (st : Settings) (f : Feeder) :
    e.rorTest st f x =
      if ¬ ((st.f f .rorAction = 0 ∨ st.f f .rorAction = 1) ∧ x.closed = true) then
        { e with disc := e.disc.cancelEpisode }
      else e.rorDifference st f prev i := by
  rw [Evaluation.rorTest, hp, hi, ite_not]
  simp only [Bool.and_eq_true, actionOf_ne_off_iff]

/-- Without a previous sample or a held value there is no difference, and the test is not made. -/
theorem Evaluation.rorTest_of_none {e : Evaluation} {x : Seen} (h : e.disc.prev = none ∨ x.held = none)
    (st : Settings) (f : Feeder) : e.rorTest st f x = { e with disc := e.disc.cancelEpisode } := by
  rcases h with h | h
  · rw [Evaluation.rorTest, h]
  · rw [Evaluation.rorTest, h]
    cases e.disc.prev <;> rfl

/-- Settles O31: the run is `Disc.instCount`'s, an episode's sample is judged by `Evaluation.rorSample`, and the episode
is cancelled where `Evaluation.rorTest` makes no test. -/
theorem instantaneousAndRiseTests : Obligations.InstantaneousAndRiseTests := by
  intro e st f x inst i d ror cancelled ended sample
  have hd : e.disc.instCount st f x = d := e.disc.instCount_eq st f x
  have hcancelled : { e with disc := e.disc.cancelEpisode } = cancelled := by
    unfold cancelled
    split
    next h => rw [Disc.cancelEpisode_of_none h]
    next p h => rw [Disc.cancelEpisode_of_some h]
  have hended (p : Episode) : { e with disc := e.disc.endEpisode p } = ended p := rfl
  have hsample (p : Episode) : e.rorSample st f p = sample p := e.rorSample_eq st f p
  constructor
  · by_cases hrun : (d.instRun : Int) < st.f f .instCount
    · rw [if_pos hrun, ← hd]
      exact Evaluation.instTest_of_lt (hd ▸ hrun)
    · rw [if_neg hrun]
      exact Evaluation.instTest_of_le hd (not_lt.mp hrun)
  · split
    next prev v hp hi =>
      rw [Evaluation.rorTest_of_some hp hi, hcancelled]
      split
      · rfl
      · split
        next h => rw [Evaluation.rorDifference_of_none h, hsample]
        next p h => rw [Evaluation.rorDifference_of_some h, hsample, hended]
    next hi => rw [Evaluation.rorTest_of_none (.inr hi), hcancelled]
    next hp => rw [Evaluation.rorTest_of_none (.inl hp), hcancelled]

/-! ## The thermal test (04 R67, R69, R70) -/

/-- The warning stands while Θ is at thermal_warn, and its entry is given when it begins to stand. -/
theorem Evaluation.warnTest_eq (e : Evaluation) (st : Settings) (f : Feeder) {hot : Prop} [Decidable hot]
    (hhot : hot ↔ (st.f f .thermalAction = 0 ∨ st.f f .thermalAction = 1) ∧ st.f f .thermalWarn ≤ e.disc.theta) :
    e.warnTest st f = { e with
      disc := { e.disc with warn := decide hot }
      entries :=
        if hot ∧ e.disc.warn = false then e.entries ++ [(.thermalWarn, .none, e.disc.theta)] else e.entries } := by
  simp only [Evaluation.warnTest, Bool.and_eq_true, actionOf_ne_off_iff, decide_eq_true_eq, ← hhot]
  by_cases h : hot
  · cases hw : e.disc.warn
    · simp [h]
    · have hstands : { e.disc with warn := true } = e.disc := by rw [← hw]
      simp [h, hstands]
  · simp [h]

/-- At thermal_trip a trip is called for by a feeder that is closed for protection, or the alarm comes to stand. -/
theorem Evaluation.tripLevel_eq (e : Evaluation) (st : Settings) (f : Feeder) (x : Seen) :
    e.tripLevel st f x =
      if st.f f .thermalTrip ≤ e.disc.theta then
        if st.f f .thermalAction = 0 ∧ x.closed = true then
          { e with
            disc := { e.disc with thermalOps := satInc 65535 e.disc.thermalOps }, thermal := some e.disc.theta }
        else if st.f f .thermalAction = 1 ∧ e.disc.thermalAlarm = false then
          { e with
            disc := { e.disc with thermalAlarm := true, thermalOps := satInc 65535 e.disc.thermalOps }
            entries := e.entries ++ [(.alarm, .alarmThermal, e.disc.theta)] }
        else e
      else e := by
  rw [Evaluation.tripLevel]
  congr 1
  rcases actionOf_cases (st.f f .thermalAction) with ⟨hv, ha⟩ | ⟨hv, ha⟩ | ⟨⟨h0, h1⟩, ha⟩
  · rw [ha, hv]
    cases x.closed <;> rfl
  · rw [ha, hv]
    cases e.disc.thermalAlarm <;> rfl
  · rw [ha, if_neg fun h : _ ∧ _ => h0 h.1, if_neg fun h : _ ∧ _ => h1 h.1]

theorem Disc.clearAlarm_eq (d : Disc) (st : Settings) (f : Feeder) :
    d.clearAlarm st f =
      if ¬ (st.f f .thermalAction = 0 ∨ st.f f .thermalAction = 1) ∨
          d.fine / 65536 ≤ min (st.f f .thermalReset) (st.f f .thermalTrip) then
        { d with thermalAlarm := false }
      else d := by
  simp only [Disc.clearAlarm, actionOf_eq_off_iff]
  rfl

/-- Settles O32: the heated value is tested by `Evaluation.warnTest`, then by `Evaluation.tripLevel`. -/
theorem thermalTestActs : Obligations.ThermalTestActs := by
  intro e st f x act q fine theta on hot warned h
  have hwarned : h.warnTest st f = warned := h.warnTest_eq st f Iff.rfl
  refine ⟨?_, fun d => d.clearAlarm_eq st f⟩
  rw [hwarned]
  exact warned.tripLevel_eq st f x

end Sys2Proof.Machine
end

section
/-! PROOFS. The journal and its readers (09 R156 to R163) and READ_RECORD (09 R171): what an append gives up, one round
of the retirement test, and the judgement of each command. -/

namespace Sys2Proof.Machine

/-! ## The entries of the journal, and the slot of an entry that leaves it (09 R170) -/

/-- The journal holds these entries; the sequence counter stays. -/
def State.withEntries (s : State) (es : List Entry) : State := { s with journal := { s.journal with entries := es } }

@[simp] theorem State.withEntries_journal (s : State) (es : List Entry) :
    (s.withEntries es).journal = { s.journal with entries := es } := rfl

theorem State.withEntries_retires (s : State) (es : List Entry) (e : Entry) :
    (s.withEntries es).retires e = s.retires e := rfl

@[simp] theorem State.freeRef_journal (s : State) (e : Entry) : (s.freeRef e).journal = s.journal := by
  unfold State.freeRef
  split <;> rfl

theorem State.freeRef_withEntries (s : State) (es : List Entry) (e : Entry) :
    (s.withEntries es).freeRef e = (s.freeRef e).withEntries es := by
  unfold State.freeRef
  split <;> rfl

/-! ## An append (09 R156, R158) -/

theorem State.overflow_of_cons {s : State} {e : Entry} {rest : List Entry} (h : s.journal.entries = e :: rest) :
    s.overflow = (((s.withEntries rest).freeRef e).charge .s e.seq).charge .c e.seq := by
  rw [State.overflow, h]
  rfl

theorem State.appendRef_of_nil {s : State} (h : s.journal.entries = []) (k : Kind) (subj : Subject) (d : Detail)
    (v : Int) (ref : Option (Fin 8)) : s.appendRef k subj d v ref = s.join k subj d v ref := by
  rw [State.appendRef, h]
  rfl

theorem State.appendRef_of_cons {s : State} {e : Entry} {rest : List Entry} (h : s.journal.entries = e :: rest)
    (k : Kind) (subj : Subject) (d : Detail) (v : Int) (ref : Option (Fin 8)) :
    s.appendRef k subj d v ref =
      (if s.journal.entries.length < 256 then s
       else (((s.withEntries rest).freeRef e).charge .s e.seq).charge .c e.seq).join k subj d v ref := by
  rw [State.appendRef, State.overflow_of_cons h]
  rfl

/-! ## The retirement test (09 R159) -/

/-- Retirement takes the entries from its list: those that stand in the journal have no part in it. -/
theorem State.retireFrom_withEntries (es xs : List Entry) (s : State) :
    (s.withEntries xs).retireFrom es = s.retireFrom es := by
  induction es generalizing s with
  | nil => rfl
  | cons e rest ih =>
    rw [State.retireFrom, State.retireFrom, s.withEntries_retires, s.freeRef_withEntries, ih]
    rfl

theorem State.retires_eq (s : State) (e : Entry) :
    s.retires e = ((s.readers.s.cursor.isSome || s.readers.c.cursor.isSome) && s.readers.s.cursor != some e.seq
      && s.readers.c.cursor != some e.seq && e.ref.all fun k => s.slots[k].state != .filling) := by
  rw [State.retires]
  cases e.ref <;> rfl

theorem State.retire_of_nil {s : State} (h : s.journal.entries = []) : s.retire = s := by
  rw [State.retire, h, State.retireFrom, ← h]

/-- One round of the test: the oldest entry fails it, or it leaves and the test is repeated. -/
theorem State.retire_of_cons {s : State} {e : Entry} {rest : List Entry} (h : s.journal.entries = e :: rest) :
    s.retire = if s.retires e then ((s.withEntries rest).freeRef e).retire else s := by
  have hleft : ((s.withEntries rest).freeRef e).retire = (s.freeRef e).retireFrom rest := by
    rw [State.retire, s.freeRef_withEntries, State.withEntries_journal, State.retireFrom_withEntries]
  rw [State.retire, h, State.retireFrom, hleft, ← h]

/-! ## The journal commands (09 R160 to R163) -/

theorem exec_attachJournal (p : Port) (s : State) :
    exec (.attachJournal p) s = .next (((s.receiveRequest p [0x10]).attach p).respond p [0x10]) := rfl

theorem exec_detachJournal (p : Port) (s : State) :
    exec (.detachJournal p) s = .next (((s.receiveRequest p [0x11]).detach p).respond p [0x11]) := rfl

theorem exec_fetchEvent (p : Port) (s : State) :
    exec (.fetchEvent p) s = .next (((s.receiveRequest p [0x12]).fetch p).respond p [0x12]) := rfl

theorem exec_setAttentionMask (p : Port) (mask : Byte) (s : State) :
    exec (.setAttentionMask p mask) s =
      .next (((s.receiveRequest p [0x13, mask]).setMask p mask).respond p [0x13, mask]) := rfl

theorem exec_readRecord (p : Port) (slot first count : Byte) (s : State) :
    exec (.readRecord p slot first count) s =
      .next (((s.receiveRequest p [0x0B, slot, first, count]).readRecord slot.toNat first.toNat count.toNat).respond p
        [0x0B, slot, first, count]) := rfl

theorem State.firstSeq_eq (s : State) :
    s.firstSeq = match s.journal.entries with
      | e :: _ => e.seq
      | [] => s.journal.seq := by
  rw [State.firstSeq]
  cases s.journal.entries <;> rfl

theorem State.attach_eq (s : State) (p : Port) :
    s.attach p =
      if (s.readers.get p).cursor ≠ none then
        ⟨s.modReader p fun r => { r with cursor := some s.firstSeq }, .ok, []⟩
      else ⟨s.modReader p fun r => { r with cursor := some s.firstSeq, lost := 0 }, .accepted, []⟩ := by
  simp only [State.attach, Option.isSome_iff_ne_none]
  rfl

theorem State.detach_eq (s : State) (p : Port) :
    s.detach p =
      if (s.readers.get p).cursor ≠ none then
        ⟨(s.modReader p fun r => { r with cursor := none }).retire, .accepted, []⟩
      else ⟨s, .ok, []⟩ := by
  simp only [State.detach, Option.isSome_iff_ne_none]
  rfl

theorem State.fetch_of_detached {s : State} {p : Port} (h : (s.readers.get p).cursor = none) :
    s.fetch p = ⟨s, .empty, []⟩ := by
  rw [State.fetch, State.unread, h]

theorem State.fetch_of_attached {s : State} {p : Port} {at' : Stamp} (h : (s.readers.get p).cursor = some at') :
    s.fetch p = match s.journal.entries.dropWhile fun e => e.seq != at' with
      | [] => ⟨s, .empty, []⟩
      | e :: rest =>
        ⟨(s.modReader p fun r => { r with cursor := some (e.seq + 1) }).retire, .ok,
          e.bytes ++ bytes16 rest.length⟩ := by
  rw [State.fetch, State.unread, h]
  rfl

/-- The six classes are the positions 0 to 5 of a mask (09 R163). -/
theorem maskNamesNoClass_iff (mask : Byte) : (mask.getLsbD 6 || mask.getLsbD 7) = true ↔ ¬ mask.toNat < 64 := by
  have hbyte := mask.isLt
  simp only [BitVec.getLsbD, Nat.testBit_eq_decide_div_mod_eq, Bool.or_eq_true, decide_eq_true_eq]
  omega

theorem State.setMask_eq (s : State) (p : Port) (mask : Byte) :
    s.setMask p mask =
      if mask.toNat < 64 then ⟨s.modReader p fun r => { r with mask := mask }, .accepted, []⟩
      else ⟨s, .badArgument, []⟩ := by
  simp only [State.setMask, maskNamesNoClass_iff, ite_not]
  rfl

/-! ## READ_RECORD (09 R171) -/

/-- The header of a slot that is not FREE (11.5). -/
theorem State.recordHeader_eq (s : State) (k : Fin 8) (h : s.slots[k].state ≠ .free) :
    s.recordHeader k =
      [if s.slots[k].state = .filling then 1 else 2, BitVec.ofNat 8 (s.slots[k].feeder.val + 1),
        BitVec.ofNat 8 s.slots[k].cause.code, s.slots[k].trigger, BitVec.ofNat 8 s.slots[k].pre,
        BitVec.ofNat 8 s.slots[k].post, BitVec.ofNat 8 s.slots[k].gaps, if s.slots[k].truncated then 1 else 0]
        ++ bytesStamp ((s.refSeq k).getD 0) := by
  have hstate : byte s.slots[k].state.number = [if s.slots[k].state = .filling then 1 else 2] := by
    cases hs : s.slots[k].state with
    | free => exact absurd hs h
    | filling => rfl
    | sealed => rfl
  rw [State.recordHeader, hstate]
  rfl

theorem State.readRecord_of_noSlot (s : State) {slot : Nat} (first count : Nat) (h : ¬ slot < 8) :
    s.readRecord slot first count = ⟨s, .badArgument, []⟩ := by
  rw [State.readRecord, dif_neg h]
  rfl

theorem State.readRecord_of_slot (s : State) (k : Fin 8) (first count : Nat) :
    s.readRecord k.val first count =
      if count = 0 ∨ 16 < count then ⟨s, .badArgument, []⟩
      else if s.slots[k].state = .free then ⟨s, .state, []⟩
      else if s.slots[k].pairs.length < first + count then ⟨s, .badArgument, []⟩
      else ⟨s, .ok, s.recordHeader k ++ ((s.slots[k].pairs.drop first).take count).flatMap Pair.bytes⟩ := by
  simp only [State.readRecord, k.isLt, dif_pos, Nat.lt_one_iff]
  rfl

/-- Settles O49: an append, one round of the retirement test, and the judgement of each command, case by case. -/
theorem journalKeepsEntriesForItsReaders : Obligations.JournalKeepsEntriesForItsReaders := by
  intro s k subj d v ref p mask slot first count freed charged given leaves put oldest a attached b detached c fetched
    m masked u recorded
  have hfreed (t : State) (e : Entry) : t.freeRef e = freed t e.ref := rfl
  have hcharged (t : State) (q : Port) (n : Stamp) : t.charge q n = charged t q n := rfl
  have happend : s.appendRef k subj d v ref = given.join k subj d v ref := by
    unfold given
    split
    next h => exact State.appendRef_of_nil h k subj d v ref
    next e rest h =>
      rw [State.appendRef_of_cons h, hfreed, hcharged, hcharged]
      rfl
  have hattach : a.attach p = attached := by
    have holdest : a.firstSeq = oldest a := a.firstSeq_eq
    rw [a.attach_eq, holdest]
    rfl
  have hdetach : b.detach p = detached := b.detach_eq p
  have hfetch : c.fetch p = fetched := by
    unfold fetched
    split
    next h => exact State.fetch_of_detached h
    next h => exact State.fetch_of_attached h
  have hmask : m.setMask p mask = masked := m.setMask_eq p mask
  have hrecord : u.readRecord slot.toNat first.toNat count.toNat = recorded := by
    unfold recorded
    split
    next h =>
      rw [u.readRecord_of_slot ⟨slot.toNat, h⟩]
      refine if_congr Iff.rfl rfl (ite_congr rfl (fun _ => rfl) fun hfree => ?_)
      rw [u.recordHeader_eq _ hfree]
      rfl
    next h => exact u.readRecord_of_noSlot _ _ h
  rw [exec_attachJournal, hattach, exec_detachJournal, hdetach, exec_fetchEvent, hfetch, exec_setAttentionMask, hmask,
    exec_readRecord, hrecord]
  refine ⟨happend, ?_, rfl, rfl, rfl, rfl, rfl⟩
  split
  next h => exact State.retire_of_nil h
  next e rest h =>
    rw [State.retire_of_cons h, s.retires_eq, hfreed]
    rfl

end Sys2Proof.Machine
end

section
/-! PROOFS. The journal, its readers and the records its entries refer to (09): an entry leaves or joins, a slot is
sealed, taken or filled, and the journal stays numbered, its readers placed and each record owned by one entry. -/

-- One text with the model: proofs elaborated side by side would need more threads than the check's memory holds.
set_option Elab.async false

namespace Sys2Proof.Machine

/-! ## Sequence numbers before a counter (09 R156) -/

theorem numbersBefore_zero (c : Stamp) : numbersBefore c 0 = [] := rfl

theorem numbersBefore_succ_cons (c : Stamp) (n : Nat) :
    numbersBefore c (n + 1) = (c - BitVec.ofNat 32 (n + 1)) :: numbersBefore c n := by
  simp only [numbersBefore, List.range_succ_eq_map, List.map_cons, List.map_map, Nat.sub_zero, List.cons.injEq, true_and]
  exact List.map_congr_left fun i _ => by simp

theorem numbersBefore_counter_succ (c : Stamp) (n : Nat) :
    numbersBefore (c + 1) (n + 1) = numbersBefore c n ++ [c] := by
  simp only [numbersBefore, List.range_succ, List.map_append, List.map_cons, List.map_nil]
  congr 1
  · refine List.map_congr_left fun i hi => ?_
    have hlt : i < n := List.mem_range.mp hi
    rw [show n + 1 - i = (n - i) + 1 by omega, BitVec.ofNat_add]
    bv_omega
  · simp

/-- The number after that of the oldest entry is that of the next one, or the counter. -/
theorem next_number_mem {c a : Stamp} {ns : List Stamp} (h : a :: ns = numbersBefore c (ns.length + 1)) :
    a + 1 = c ∨ a + 1 ∈ ns := by
  rw [numbersBefore_succ_cons] at h
  obtain ⟨ha, hns⟩ := List.cons.inj h
  cases hn : ns.length with
  | zero => left; rw [ha, hn]; bv_omega
  | succ n =>
    right
    have hmem : c - BitVec.ofNat 32 (n + 1) ∈ ns := by
      rw [hns, hn, numbersBefore_succ_cons]
      exact List.mem_cons_self
    have hnext : a + 1 = c - BitVec.ofNat 32 (n + 1) := by
      rw [ha, hn, BitVec.ofNat_add (n + 1)]
      bv_omega
    exact hnext ▸ hmem

/-! ## A journal that is sound but for a slot just taken (09 R166) -/

/-- The journal is numbered, its readers are placed, and each slot that is not FREE is the record of exactly one entry;
the slot `o`, where one is named, is taken and has no entry yet. -/
structure State.JournalSound (s : State) (o : Option (Fin 8)) : Prop where
  numbered : s.JournalNumbered
  cursors : s.CursorsPlaced
  refs : ∀ k : Fin 8,
    (s.journal.entries.countP fun e => e.ref = some k) = if s.slots[k].state = .free ∨ o = some k then 0 else 1
  taken : ∀ k, o = some k → s.slots[k].state ≠ .free

theorem State.journalSound_iff (s : State) :
    s.JournalSound none ↔ s.JournalNumbered ∧ s.CursorsPlaced ∧ s.RecordsReferenced := by
  constructor
  · rintro ⟨hnum, hcur, hrefs, -⟩
    exact ⟨hnum, hcur, fun k => by simpa using hrefs k⟩
  · rintro ⟨hnum, hcur, hrefs⟩
    exact ⟨hnum, hcur, fun k => by simpa using hrefs k, by simp⟩

/-- What soundness rests on: the journal, the cursors and the states of the slots. -/
theorem State.JournalSound.of_eq {s t : State} {o : Option (Fin 8)} (h : s.JournalSound o) (hj : t.journal = s.journal)
    (hr : ∀ p, (t.readers.get p).cursor = (s.readers.get p).cursor)
    (hs : ∀ k : Fin 8, t.slots[k].state = .free ↔ s.slots[k].state = .free) : t.JournalSound o where
  numbered := by simpa only [State.JournalNumbered, hj] using h.numbered
  cursors := by simpa only [State.CursorsPlaced, hj, hr] using h.cursors
  refs k := by simpa only [hj, hs] using h.refs k
  taken k hk := by simpa only [hs, ne_eq] using h.taken k hk

/-- The oldest entry leaves with its slot; a cursor that named it moves to the next number. -/
theorem State.JournalSound.leave {s t : State} {o : Option (Fin 8)} {e : Entry} {rest : List Entry}
    (h : s.JournalSound o) (hes : s.journal.entries = e :: rest) (hj : t.journal = { s.journal with entries := rest })
    (hslots : ∀ k : Fin 8, t.slots[k].state = if e.ref = some k then .free else s.slots[k].state)
    (hcur : ∀ p c, (t.readers.get p).cursor = some c → (s.readers.get p).cursor = some c ∧ c ≠ e.seq ∨ c = e.seq + 1) :
    t.JournalSound o := by
  obtain ⟨⟨hlen, hseq⟩, hplaced, hrefs, htaken⟩ := h
  rw [hes] at hlen hseq
  simp only [List.length_cons, List.map_cons] at hlen hseq
  have hcount (k : Fin 8) := hrefs k
  simp only [hes, List.countP_cons] at hcount
  refine ⟨⟨?_, ?_⟩, ?_, ?_, ?_⟩
  · rw [hj]; exact Nat.le_of_succ_le hlen
  · rw [numbersBefore_succ_cons] at hseq
    rw [hj]
    exact (List.cons.inj hseq).2
  · intro p c hc
    rw [hj]
    rcases hcur p c hc with ⟨hold, hne⟩ | rfl
    · rcases hplaced p c hold with hcounter | hmem
      · exact .inl hcounter
      · rw [hes, List.map_cons, List.mem_cons] at hmem
        exact .inr (hmem.resolve_left hne)
    · exact next_number_mem (by simpa using hseq)
  · intro k
    rw [hj, hslots]
    have := hcount k
    by_cases hk : e.ref = some k
    · simp only [hk, decide_true, if_true, true_or] at this ⊢
      split at this <;> omega
    · simpa [hk] using this
  · intro k hk
    have hnone := hcount k
    have := htaken k hk
    rw [hslots]
    simp only [hk, or_true, if_true] at hnone
    split
    · simp_all
    · exact this

/-! ## The oldest entry leaves (09 R158, R159) -/

theorem State.freeRef_slot_state (s : State) (e : Entry) (k : Fin 8) :
    (s.freeRef e).slots[k].state = if e.ref = some k then .free else s.slots[k].state := by
  unfold State.freeRef State.freeSlot
  split
  · rename_i j hj
    rw [State.modSlot_get, hj]
    by_cases h : j = k <;> simp [h, Slot.freed]
  · rename_i hnone
    simp [hnone]

@[simp] theorem State.freeRef_readers (s : State) (e : Entry) : (s.freeRef e).readers = s.readers := by
  unfold State.freeRef
  split <;> rfl

theorem State.charge_journal (s : State) (p : Port) (n : Stamp) : (s.charge p n).journal = s.journal := by
  unfold State.charge
  split <;> rfl

theorem State.charge_slots (s : State) (p : Port) (n : Stamp) : (s.charge p n).slots = s.slots := by
  unfold State.charge
  split <;> rfl

theorem State.charge_cursor (s : State) (p q : Port) (n : Stamp) :
    ((s.charge p n).readers.get q).cursor =
      if p = q ∧ (s.readers.get q).cursor = some n then some (n + 1) else (s.readers.get q).cursor := by
  unfold State.charge
  by_cases hpq : p = q
  · subst hpq
    split <;> simp_all [State.latch]
  · split <;> simp [State.latch, hpq]

/-- Both readers are charged by their own cursors. -/
theorem State.charge_both_cursor {s : State} {n c : Stamp} {p : Port}
    (h : (((s.charge .s n).charge .c n).readers.get p).cursor = some c) :
    (s.readers.get p).cursor = some c ∧ c ≠ n ∨ c = n + 1 := by
  rw [State.charge_cursor, State.charge_cursor] at h
  cases p <;> simp only [reduceCtorEq, false_and, true_and, if_false] at h <;> split at h <;> simp_all

theorem State.JournalSound.overflow {s : State} {o : Option (Fin 8)} (h : s.JournalSound o) : s.overflow.JournalSound o := by
  cases hes : s.journal.entries with
  | nil => rw [State.overflow, hes]; exact h
  | cons e rest =>
    rw [State.overflow_of_cons hes]
    refine h.leave hes ?_ (fun k => ?_) fun p c hc => ?_
    · rw [State.charge_journal, State.charge_journal, State.freeRef_journal, State.withEntries_journal]
    · rw [State.charge_slots, State.charge_slots, State.freeRef_slot_state]
      rfl
    · have := State.charge_both_cursor hc
      rwa [State.freeRef_readers] at this

theorem State.JournalSound.retire {s : State} {o : Option (Fin 8)} (h : s.JournalSound o) : s.retire.JournalSound o := by
  induction hn : s.journal.entries generalizing s with
  | nil => rw [State.retire_of_nil hn]; exact h
  | cons e rest ih =>
    rw [State.retire_of_cons hn]
    split
    case isFalse => exact h
    case isTrue hretires =>
      refine ih (h.leave hn (by simp) (fun k => ?_) fun p c hc => .inl ?_) (by simp)
      · rw [State.freeRef_slot_state]; rfl
      · rw [State.freeRef_readers] at hc
        have hc : (s.readers.get p).cursor = some c := hc
        refine ⟨hc, ?_⟩
        rintro rfl
        rw [State.retires_eq] at hretires
        cases p <;> simp_all [PerPort.get]

/-! ## An entry joins (09 R156) -/

theorem State.overflow_length_lt {s : State} (h : s.JournalNumbered) : s.overflow.journal.entries.length < Config.journalDepth := by
  have hlen := h.1
  cases hes : s.journal.entries with
  | nil => rw [State.overflow, hes]; simp [hes, Config.journalDepth]
  | cons e rest =>
    rw [State.overflow_of_cons hes, State.charge_journal, State.charge_journal, State.freeRef_journal,
      State.withEntries_journal]
    rw [hes, List.length_cons] at hlen
    exact hlen

theorem State.join_numbers (s : State) (h : s.JournalNumbered) (k : Kind) (x : Subject) (d : Detail) (v : Int)
    (ref : Option (Fin 8)) : (s.join k x d v ref).journal.entries.map Entry.seq
      = numbersBefore (s.join k x d v ref).journal.seq (s.join k x d v ref).journal.entries.length := by
  simp only [State.join, List.map_append, List.map_cons, List.map_nil, List.length_append, List.length_singleton]
  rw [numbersBefore_counter_succ, h.2]

/-- An entry joins a journal with room: with the reference of the slot that waits for its entry, or with none where no
slot waits. -/
theorem State.JournalSound.join {s : State} {o : Option (Fin 8)} (h : s.JournalSound o)
    (hroom : s.journal.entries.length < Config.journalDepth) (k : Kind) (x : Subject) (d : Detail) (v : Int) :
    (s.join k x d v o).JournalSound none := by
  refine ⟨⟨?_, ?_⟩, ?_, fun j => ?_, by simp⟩
  · simpa [State.join] using hroom
  · exact s.join_numbers h.numbered k x d v _
  · intro p c hc
    rcases h.cursors p c hc with hcounter | hmem
    · simp [State.join, hcounter]
    · exact .inr (by simpa [State.join] using .inl (by simpa using hmem))
  · have hj := h.refs j
    have ht := h.taken j
    simp only [State.join, List.countP_append, List.countP_cons, List.countP_nil]
    by_cases ho : o = some j
    · simp_all
    · simpa [ho] using hj

/-- An entry without a reference joins beside a slot that waits for its own. -/
theorem State.JournalSound.join_none {s : State} {o : Option (Fin 8)} (h : s.JournalSound o)
    (hroom : s.journal.entries.length < Config.journalDepth) (k : Kind) (x : Subject) (d : Detail) (v : Int) :
    (s.join k x d v none).JournalSound o := by
  refine ⟨⟨?_, ?_⟩, ?_, fun j => ?_, h.taken⟩
  · simpa [State.join] using hroom
  · exact s.join_numbers h.numbered k x d v _
  · intro p c hc
    rcases h.cursors p c hc with hcounter | hmem
    · simp [State.join, hcounter]
    · exact .inr (by simpa [State.join] using .inl (by simpa using hmem))
  · have hcount : ((s.join k x d v none).journal.entries.countP fun e => e.ref = some j)
        = s.journal.entries.countP fun e => e.ref = some j := by simp [State.join]
    exact hcount.trans (h.refs j)

theorem State.JournalSound.appendRef {s : State} {o : Option (Fin 8)} (h : s.JournalSound o) (k : Kind) (x : Subject)
    (d : Detail) (v : Int) : (s.appendRef k x d v o).JournalSound none := by
  unfold State.appendRef
  split
  · exact h.join ‹_› k x d v
  · exact h.overflow.join (State.overflow_length_lt h.numbered) k x d v

theorem State.JournalSound.append {s : State} (h : s.JournalSound none) (k : Kind) (x : Subject) (d : Detail) (v : Int) :
    (s.append k x d v).JournalSound none := h.appendRef k x d v

/-! ## The recorder (09, 9.3) -/

/-- A slot in use stays in use. -/
theorem State.JournalSound.modSlot {s : State} {o : Option (Fin 8)} (h : s.JournalSound o) {k : Fin 8} {g : Slot → Slot}
    (hk : s.slots[k].state ≠ .free) (hg : (g s.slots[k]).state ≠ .free) : (s.modSlot k g).JournalSound o := by
  refine h.of_eq rfl (fun _ => rfl) fun j => ?_
  rw [State.modSlot_get]
  split
  · next hkj => subst hkj; exact iff_of_false hg hk
  · rfl

/-- A FREE slot that is taken waits for its entry. -/
theorem State.JournalSound.take {s : State} (h : s.JournalSound none) {k : Fin 8} {g : Slot → Slot}
    (hk : s.slots[k].state = .free) (hg : (g s.slots[k]).state ≠ .free) : (s.modSlot k g).JournalSound (some k) := by
  refine ⟨h.numbered, h.cursors, fun j => ?_, ?_⟩
  · have hj := h.refs j
    rw [State.modSlot_get]
    by_cases hkj : k = j
    · subst hkj
      rw [if_pos (.inl hk)] at hj
      rw [if_pos (.inr rfl)]
      exact hj
    · rw [if_neg hkj]
      refine hj.trans (if_congr (or_congr_right ?_) rfl rfl)
      exact iff_of_false (by simp) (by simpa using hkj)
  · rintro j hj
    obtain rfl := Option.some.inj hj
    rwa [State.modSlot_get, if_pos rfl]

theorem State.JournalSound.sealTruncated {s : State} {o : Option (Fin 8)} (h : s.JournalSound o) {k : Fin 8}
    (hk : s.slots[k].state ≠ .free) : (s.sealTruncated k).JournalSound o :=
  (h.modSlot hk (by simp)).retire

theorem State.JournalSound.sealAll {s : State} (h : s.JournalSound none) : s.sealAll.JournalSound none := by
  refine List.foldlRecOn (motive := fun t : State => t.JournalSound none) slotNos _ h fun t ht k _ => ?_
  split
  · next hk => exact ht.sealTruncated fun hf => nomatch hk.symm.trans hf
  · exact ht

theorem State.JournalSound.sealSame {s : State} (h : s.JournalSound none) (f : Feeder) : (s.sealSame f).JournalSound none := by
  unfold State.sealSame
  split
  · next k hk =>
    have := List.find?_some hk
    exact h.sealTruncated (by simp_all)
  · exact h

theorem State.JournalSound.capture {s : State} {k : Fin 8} (h : s.JournalSound (some k)) (f : Feeder) (c : TripCause)
    (b : Byte) : (s.capture k f c b).JournalSound (some k) := by
  have hk := h.taken k rfl
  unfold State.capture
  split
  · exact (h.modSlot hk (by simp)).sealTruncated (by simp)
  · dsimp only
    split
    · exact h.modSlot hk (by simp)
    · exact (h.modSlot hk (by simp)).retire

theorem State.JournalSound.fillSlot {s : State} (h : s.JournalSound none) {k : Fin 8} (hk : s.slots[k].state = .filling)
    (row : RingRow) : (s.fillSlot k row).JournalSound none := by
  unfold State.fillSlot
  extract_lets t
  have hfree : s.slots[k].state ≠ .free := fun hf => nomatch hk.symm.trans hf
  have ht : t.JournalSound none := h.modSlot hfree hfree
  have hfilled : t.slots[k].state ≠ .free := by rw [State.modSlot_get, if_pos rfl]; exact hfree
  split
  · exact ht
  · exact (ht.modSlot hfilled (by simp)).retire

theorem State.JournalSound.fillSlots {s : State} (h : s.JournalSound none) (row : RingRow) :
    (s.fillSlots row).JournalSound none := by
  refine List.foldlRecOn (motive := fun t : State => t.JournalSound none) slotNos _ h fun t ht k _ => ?_
  split
  · next hk => exact ht.fillSlot hk row
  · exact ht

end Sys2Proof.Machine
end


section
/-! PROOFS. What every operation keeps of the journal, the latch words, the gates, the coordination map and the queue:
one relation between two states, closed under composition, with one lemma per shared operation in the order of the
model's files. The invariants of the journal, of the conditions and of the gates are read off it. -/

-- One text with the model: proofs elaborated side by side would need more threads than the check's memory holds.
set_option Elab.async false

namespace Sys2Proof.Machine

/-! ## Latches (10 R178) -/

/-- The latch is set in the port's word. -/
def PortUnit.Shows (u : PortUnit) (b : Latch) : Prop := u.latches &&& b.bit = b.bit

theorem PortUnit.shows_or_self (w c : BitVec 16) : (w ||| c) &&& c = c := by
  ext i hi
  simpa only [BitVec.getElem_and, BitVec.getElem_or, Bool.and_eq_right_iff_imp, Bool.or_eq_true] using Or.inr

theorem PortUnit.shows_or {w b : BitVec 16} (h : w &&& b = b) (c : BitVec 16) : (w ||| c) &&& b = b := by
  rw [← h]
  ext i hi
  simp only [BitVec.getElem_and, BitVec.getElem_or]
  cases w[i] <;> cases b[i] <;> simp

theorem State.latch_shows (s : State) (p : Port) (b : Latch) : ((s.latch p b).ports.get p).Shows b := by
  simp [State.latch, PortUnit.Shows, PortUnit.shows_or_self]

theorem State.latch_keeps (s : State) (p q : Port) (b c : Latch) (h : (s.ports.get q).Shows c) :
    ((s.latch p b).ports.get q).Shows c := by
  unfold State.latch
  rw [State.modPort_get]
  split
  · next hpq => subst hpq; exact PortUnit.shows_or h _
  · exact h

theorem State.onset_keeps (s : State) (q : Port) (b c : Latch) (h : (s.ports.get q).Shows c) :
    ((s.onset b).ports.get q).Shows c := State.latch_keeps _ _ _ _ _ (s.latch_keeps _ _ _ _ h)

theorem State.onset_shows (s : State) (p : Port) (b : Latch) : ((s.onset b).ports.get p).Shows b := by
  cases p
  · exact State.latch_keeps _ _ _ _ _ (s.latch_shows .s b)
  · exact State.latch_shows _ .c b

theorem State.onsetIf_keeps (s : State) (x : Bool) (q : Port) (b c : Latch) (h : (s.ports.get q).Shows c) :
    ((s.onsetIf x b).ports.get q).Shows c := by
  unfold State.onsetIf
  split
  · exact s.onset_keeps q b c h
  · exact h

theorem State.onsetIf_slots (s : State) (x : Bool) (b : Latch) : (s.onsetIf x b).slots = s.slots := by
  unfold State.onsetIf
  split <;> rfl

theorem State.onsetIf_shows (s : State) {x : Bool} (p : Port) (b : Latch) (h : x = true) :
    ((s.onsetIf x b).ports.get p).Shows b := by
  rw [State.onsetIf, if_pos h]
  exact s.onset_shows p b

/-! ## The relation -/

/-- From the first state to the second: a sound journal stays sound, latches stay set, a condition that is present (but
for those of the list) was present or is latched, and the queue stays. -/
structure State.LogsCore (ex : List Latch) (s t : State) : Prop where
  journal : s.JournalSound none → t.JournalSound none
  shown : ∀ p b, (s.ports.get p).Shows b → (t.ports.get p).Shows b
  present : ∀ p b, b ∉ ex → t.present b = true → s.present b = true ∨ (t.ports.get p).Shows b
  pending : t.pending = s.pending

/-- The same, and the gates rule stays. -/
structure State.LogsBut (ex : List Latch) (s t : State) : Prop extends s.LogsCore ex t where
  gates : s.GatesAllowed → t.GatesAllowed

/-- The same, and the SINGLE sections, the map and the settings stay too. -/
structure State.Logs (ex : List Latch) (s t : State) : Prop extends s.LogsBut ex t where
  singles : s.SinglesUnmapped → t.SinglesUnmapped
  mapping : ∀ f : Feeder, t.sections[f].mapping = s.sections[f].mapping
  settings : t.settings = s.settings

theorem State.LogsCore.trans {ex : List Latch} {a b c : State} (h : a.LogsCore ex b) (k : b.LogsCore ex c) : a.LogsCore ex c where
  journal := k.journal ∘ h.journal
  shown p x := k.shown p x ∘ h.shown p x
  present p x hx hc := (k.present p x hx hc).elim
    (fun hb => (h.present p x hx hb).imp_right (k.shown p x)) .inr
  pending := k.pending.trans h.pending

theorem State.LogsBut.trans {ex : List Latch} {a b c : State} (h : a.LogsBut ex b) (k : b.LogsBut ex c) : a.LogsBut ex c :=
  ⟨h.toLogsCore.trans k.toLogsCore, k.gates ∘ h.gates⟩

/-- A condition that was excepted is accounted for. -/
theorem State.LogsCore.cover {ex : List Latch} {s t : State} {b : Latch} (h : s.LogsCore (b :: ex) t)
    (hb : ∀ p, t.present b = true → s.present b = true ∨ (t.ports.get p).Shows b) : s.LogsCore ex t := by
  refine ⟨h.journal, h.shown, fun p x hx ht => ?_, h.pending⟩
  by_cases hxb : x = b
  · exact hxb ▸ hb p (hxb ▸ ht)
  · exact h.present p x (by simp [hxb, hx]) ht

theorem State.LogsBut.cover {ex : List Latch} {s t : State} {b : Latch} (h : s.LogsBut (b :: ex) t)
    (hb : ∀ p, t.present b = true → s.present b = true ∨ (t.ports.get p).Shows b) : s.LogsBut ex t :=
  ⟨h.toLogsCore.cover hb, h.gates⟩

theorem State.Logs.cover {ex : List Latch} {s t : State} {b : Latch} (h : s.Logs (b :: ex) t)
    (hb : ∀ p, t.present b = true → s.present b = true ∨ (t.ports.get p).Shows b) : s.Logs ex t :=
  ⟨h.toLogsBut.cover hb, h.singles, h.mapping, h.settings⟩

theorem State.Logs.refl (ex : List Latch) (s : State) : s.Logs ex s :=
  ⟨⟨⟨id, fun _ _ => id, fun _ _ _ => .inl, rfl⟩, id⟩, id, fun _ => rfl, rfl⟩

section
variable {ex : List Latch}

theorem State.Logs.trans {a b c : State} (h : a.Logs ex b) (k : b.Logs ex c) : a.Logs ex c where
  toLogsBut := h.toLogsBut.trans k.toLogsBut
  singles := k.singles ∘ h.singles
  mapping f := (k.mapping f).trans (h.mapping f)
  settings := k.settings.trans h.settings

/-- A list of operations, each of which stays in the relation wherever it starts. -/
theorem State.Logs.foldl {α : Type} {op : State → α → State} {r s : State} (h : r.Logs ex s) (xs : List α)
    (hop : ∀ (t : State) (x : α), r.Logs ex t → r.Logs ex (op t x)) : r.Logs ex (xs.foldl op s) :=
  List.foldlRecOn (motive := fun t : State => r.Logs ex t) xs op h fun t ht x _ => hop t x ht

theorem State.Logs.ite {r s t : State} {c : Prop} [Decidable c] (hs : r.Logs ex s) (ht : r.Logs ex t) :
    r.Logs ex (if c then s else t) := by
  split
  · exact hs
  · exact ht

end

/-! ## Updates that the relation does not see -/

section
variable {ex : List Latch}

/-- The two states agree on the conditions' sources, the gates, the map and the queue. -/
structure State.SameSources (s t : State) : Prop where
  tracker : t.tracker.state = s.tracker.state
  meas : t.sample.state = s.sample.state
  failed : t.sample.failed = s.sample.failed
  links : ∀ l, (t.links.get l).state = (s.links.get l).state
  mapping : ∀ f : Feeder, t.sections[f].mapping = s.sections[f].mapping
  coord : ∀ f : Feeder, t.sections[f].coord = s.sections[f].coord
  rect : t.rect.state = s.rect.state
  gates : ∀ k : Gate, t.rect.gates[k].driven = s.rect.gates[k].driven
  hot : t.rect.hot = s.rect.hot
  acClosed : t.inputs.acClosed = s.inputs.acClosed
  eoff : t.inputs.eoff = s.inputs.eoff
  startHold : t.startHold = s.startHold
  settings : t.settings = s.settings
  pending : t.pending = s.pending

theorem State.SameSources.present {s t : State} (h : s.SameSources t) {b : Latch} (hb : b ≠ .poolEmpty) :
    t.present b = s.present b := by
  have hu := h.links .u
  have hd := h.links .d
  simp only [PerLink.get] at hu hd
  cases b with
  | poolEmpty => exact absurd rfl hb
  | _ => simp only [State.present, State.anyFailed, State.mappedTo, h.tracker, h.meas, h.failed, hu, hd, h.mapping, h.coord, h.hot,
      h.eoff, h.startHold]

theorem State.SameSources.mayFire {s t : State} (h : s.SameSources t) : t.mayFire = s.mayFire := by
  simp only [State.mayFire, h.rect, h.tracker, h.eoff, h.acClosed]

theorem State.SameSources.logs {s t : State} (h : s.SameSources t) (hjournal : s.JournalSound none → t.JournalSound none)
    (hshown : ∀ p b, (s.ports.get p).Shows b → (t.ports.get p).Shows b)
    (hpool : ∀ p, t.present .poolEmpty = true → s.present .poolEmpty = true ∨ (t.ports.get p).Shows .poolEmpty) :
    s.Logs ex t where
  journal := hjournal
  shown := hshown
  present p b _ hb := by
    by_cases hp : b = .poolEmpty
    · exact hp ▸ hpool p (hp ▸ hb)
    · exact .inl (h.present hp ▸ hb)
  singles hs f := by rw [h.mapping, h.coord]; exact hs f
  pending := h.pending
  gates hg := by
    unfold State.GatesAllowed
    simp only [h.rect, h.acClosed, h.eoff, h.gates, h.mayFire]
    exact hg
  mapping := h.mapping
  settings := h.settings

/-- An update outside the journal, the readers, the slots and the latch words, after which no condition is present that was
not. -/
theorem State.logsCore_of_eq {s t : State} (hj : t.journal = s.journal) (hr : t.readers = s.readers) (hs : t.slots = s.slots)
    (hp : ∀ p, (t.ports.get p).latches = (s.ports.get p).latches) (hpending : t.pending = s.pending)
    (hpresent : ∀ b, b ∉ ex → t.present b = true → s.present b = true) : s.LogsCore ex t where
  journal hsound := hsound.of_eq hj (fun p => by rw [hr]) fun k => by rw [hs]
  shown p b := by simp only [PortUnit.Shows, hp, imp_self]
  present _ b hb ht := .inl (hpresent b hb ht)
  pending := hpending

/-- An update outside the journal, the readers, the slots and the latch words. -/
theorem State.SameSources.logs_of_eq {s t : State} (h : s.SameSources t) (hj : t.journal = s.journal)
    (hr : t.readers = s.readers) (hs : t.slots = s.slots)
    (hp : ∀ p, (t.ports.get p).latches = (s.ports.get p).latches) : s.Logs ex t := by
  refine h.logs (fun hsound => hsound.of_eq hj (fun p => by rw [hr]) fun k => by rw [hs]) (fun p b => ?_) fun _ hpool => .inl ?_
  · simp only [PortUnit.Shows, hp, imp_self]
  · simpa only [State.present, hs] using hpool

theorem State.JournalOnly.sameSources {s t : State} (h : s.JournalOnly t) : s.SameSources t := by
  constructor <;> simp [h.tracker, h.sample, h.links, h.sections, h.rect, h.inputs, h.startHold, h.settings, h.pending]

end

/-! ## The pool of slots (09 R166, 10 R178) -/

theorem State.present_poolEmpty_iff (s : State) : s.present .poolEmpty = true ↔ ∀ k : Fin 8, s.slots[k].state ≠ .free := by
  simp only [State.present, List.all_eq_true, bne_iff_ne, ne_eq]
  constructor
  · intro h k
    exact h _ (Vector.mem_toList_iff.mpr (Vector.getElem_mem k.isLt))
  · intro h x hx
    obtain ⟨i, hi, rfl⟩ := List.getElem_of_mem hx
    exact h ⟨i, by simpa using hi⟩

/-- The FREE slots stay FREE. -/
def State.FreeStay (s t : State) : Prop := ∀ k : Fin 8, s.slots[k].state = .free → t.slots[k].state = .free

theorem State.FreeStay.trans {a b c : State} (h : a.FreeStay b) (k : b.FreeStay c) : a.FreeStay c := fun j => k j ∘ h j

theorem State.FreeStay.pool {s t : State} (h : s.FreeStay t) (ht : t.present .poolEmpty = true) : s.present .poolEmpty = true := by
  rw [State.present_poolEmpty_iff] at ht ⊢
  exact fun k hk => ht k (h k hk)

theorem State.freeRef_freeStay (s : State) (e : Entry) : s.FreeStay (s.freeRef e) := by
  intro k hk
  rw [State.freeRef_slot_state, hk]
  split <;> rfl

theorem State.overflow_freeStay (s : State) : s.FreeStay s.overflow := by
  cases hes : s.journal.entries with
  | nil => rw [State.overflow, hes]; exact fun _ => id
  | cons e rest =>
    intro k hk
    rw [State.overflow_of_cons hes, State.charge_slots, State.charge_slots]
    exact State.freeRef_freeStay (s.withEntries rest) e k hk

theorem State.appendRef_freeStay (s : State) (k : Kind) (x : Subject) (d : Detail) (v : Int) (r : Option (Fin 8)) :
    s.FreeStay (s.appendRef k x d v r) := by
  unfold State.appendRef
  split
  · exact fun _ => id
  · exact s.overflow_freeStay

theorem State.retire_freeStay (s : State) : s.FreeStay s.retire := by
  induction hn : s.journal.entries generalizing s with
  | nil => rw [State.retire_of_nil hn]; exact fun _ => id
  | cons e rest ih =>
    rw [State.retire_of_cons hn]
    split
    · exact State.FreeStay.trans (State.freeRef_freeStay (s.withEntries rest) e) (ih _ (by simp))
    · exact fun _ => id

theorem State.modSlot_freeStay (s : State) {k : Fin 8} (g : Slot → Slot) (hk : s.slots[k].state ≠ .free) :
    s.FreeStay (s.modSlot k g) := by
  intro j hj
  rw [State.modSlot_get, if_neg]
  · exact hj
  · rintro rfl; exact hk hj

theorem State.sealTruncated_freeStay (s : State) {k : Fin 8} (hk : s.slots[k].state ≠ .free) : s.FreeStay (s.sealTruncated k) :=
  (s.modSlot_freeStay _ hk).trans (State.retire_freeStay _)

theorem State.capture_freeStay (s : State) {k : Fin 8} (hk : s.slots[k].state ≠ .free) (f : Feeder) (c : TripCause) (b : Byte) :
    s.FreeStay (s.capture k f c b) := by
  unfold State.capture
  split
  · exact (s.modSlot_freeStay _ hk).trans (State.sealTruncated_freeStay _ (by simp))
  · dsimp only
    split
    · exact s.modSlot_freeStay _ hk
    · exact (s.modSlot_freeStay _ hk).trans (State.retire_freeStay _)

/-! ## Ports of the journal's operations -/

theorem State.freeRef_ports (s : State) (e : Entry) : (s.freeRef e).ports = s.ports := by
  unfold State.freeRef
  split <;> rfl

theorem State.charge_keeps (s : State) (p q : Port) (n : Stamp) (c : Latch) (h : (s.ports.get q).Shows c) :
    ((s.charge p n).ports.get q).Shows c := by
  unfold State.charge
  split
  · exact State.latch_keeps _ _ _ _ _ h
  · exact h

theorem State.overflow_keeps (s : State) (q : Port) (c : Latch) (h : (s.ports.get q).Shows c) :
    (s.overflow.ports.get q).Shows c := by
  cases hes : s.journal.entries with
  | nil => rw [State.overflow, hes]; exact h
  | cons e rest =>
    rw [State.overflow_of_cons hes]
    refine State.charge_keeps _ _ _ _ _ (State.charge_keeps _ _ _ _ _ ?_)
    rw [State.freeRef_ports]
    exact h

theorem State.appendRef_keeps (s : State) (k : Kind) (x : Subject) (d : Detail) (v : Int) (r : Option (Fin 8)) (q : Port)
    (c : Latch) (h : (s.ports.get q).Shows c) : ((s.appendRef k x d v r).ports.get q).Shows c := by
  unfold State.appendRef
  split
  · exact h
  · exact s.overflow_keeps q c h

theorem State.retire_ports (s : State) : s.retire.ports = s.ports := by
  induction hn : s.journal.entries generalizing s with
  | nil => rw [State.retire_of_nil hn]
  | cons e rest ih =>
    rw [State.retire_of_cons hn]
    split
    · exact (ih _ (by simp)).trans (State.freeRef_ports _ e)
    · rfl

theorem State.sealTruncated_ports (s : State) (k : Fin 8) : (s.sealTruncated k).ports = s.ports := State.retire_ports _

theorem State.capture_ports (s : State) (k : Fin 8) (f : Feeder) (c : TripCause) (b : Byte) :
    (s.capture k f c b).ports = s.ports := by
  unfold State.capture
  split
  · exact State.sealTruncated_ports _ k
  · dsimp only
    split
    · rfl
    · exact State.retire_ports _

theorem State.sealSame_ports (s : State) (f : Feeder) : (s.sealSame f).ports = s.ports := by
  unfold State.sealSame
  split
  · exact s.sealTruncated_ports _
  · rfl

/-! ## The journal and the latches stay in the relation -/

section
variable {ex : List Latch} {r s : State} {k : Kind} {x : Subject} {d : Detail} {v : Int} {b : Latch} {c : Bool}

/-- A journal operation that keeps soundness, latches and the FREE slots. -/
theorem State.JournalOnly.logs {s t : State} (h : s.JournalOnly t) (hjournal : s.JournalSound none → t.JournalSound none)
    (hshown : ∀ p b, (s.ports.get p).Shows b → (t.ports.get p).Shows b) (hfree : s.FreeStay t) : s.Logs ex t :=
  h.sameSources.logs hjournal hshown fun _ hp => .inl (hfree.pool hp)

theorem State.Logs.append (h : r.Logs ex s) : r.Logs ex (s.append k x d v) :=
  h.trans ((s.append_only k x d v).logs (fun hs => hs.append k x d v) (s.appendRef_keeps k x d v none)
    (s.appendRef_freeStay k x d v none))

theorem State.Logs.retire (h : r.Logs ex s) : r.Logs ex s.retire :=
  h.trans (s.retire_only.logs (·.retire) (fun _ _ hb => by rwa [State.retire_ports]) s.retire_freeStay)

theorem State.Logs.onset (h : r.Logs ex s) : r.Logs ex (s.onset b) :=
  h.trans ((s.onset_only b).logs (fun hs => hs.of_eq rfl (fun _ => rfl) fun _ => .rfl) (fun p c => s.onset_keeps p b c) fun _ => id)

theorem State.Logs.onsetIf (h : r.Logs ex s) : r.Logs ex (s.onsetIf c b) := by
  unfold State.onsetIf
  exact h.onset.ite h

/-! ## The recorder -/

theorem State.Logs.sealTruncated (h : r.Logs ex s) {j : Fin 8} (hj : s.slots[j].state ≠ .free) : r.Logs ex (s.sealTruncated j) :=
  h.trans ((s.sealTruncated_only j).logs (fun hs => hs.sealTruncated hj)
    (fun _ _ hb => by rwa [State.sealTruncated_ports]) (s.sealTruncated_freeStay hj))

theorem State.Logs.sealAll (h : r.Logs ex s) : r.Logs ex s.sealAll :=
  h.foldl slotNos fun t j ht => by
    split
    · next hj => exact ht.sealTruncated fun hf => nomatch hj.symm.trans hf
    · exact ht

theorem State.Logs.sealSame {f : Feeder} (h : r.Logs ex s) : r.Logs ex (s.sealSame f) := by
  unfold State.sealSame
  split
  · next j hj =>
    have := List.find?_some hj
    exact h.sealTruncated (by simp_all)
  · exact h

theorem State.Logs.fillSlot {j : Fin 8} {row : RingRow} (h : r.Logs ex s) (hj : s.slots[j].state = .filling) : r.Logs ex (s.fillSlot j row) := by
  have hfree : s.slots[j].state ≠ .free := fun hf => nomatch hj.symm.trans hf
  refine h.trans ((s.fillSlot_only j row).logs (fun hs => hs.fillSlot hj row) (fun p b hb => ?_) ?_) <;>
    unfold State.fillSlot <;> extract_lets t <;> split
  · exact hb
  · rwa [State.retire_ports]
  · exact s.modSlot_freeStay _ hfree
  · refine ((s.modSlot_freeStay _ hfree).trans (State.modSlot_freeStay _ _ ?_)).trans (State.retire_freeStay _)
    rw [State.modSlot_get, if_pos rfl]
    exact hfree

theorem State.Logs.fillSlots {row : RingRow} (h : r.Logs ex s) : r.Logs ex (s.fillSlots row) :=
  h.foldl slotNos fun t j ht => by
    split
    · next hj => exact ht.fillSlot hj
    · exact ht

theorem State.freeSlotNo_eq_none {s : State} (h : ∀ k : Fin 8, s.slots[k].state ≠ .free) : s.freeSlotNo = none := by
  simp only [State.freeSlotNo, List.find?_eq_none, decide_eq_true_eq]
  exact fun k _ => h k

theorem State.freeSlotNo_state {s : State} {k : Fin 8} (h : s.freeSlotNo = some k) : s.slots[k].state = .free := by
  have := List.find?_some h
  simpa only [decide_eq_true_eq] using this

theorem State.JournalSound.onsetIf {s : State} {o : Option (Fin 8)} {x : Bool} {l : Latch} (h : s.JournalSound o) :
    (s.onsetIf x l).JournalSound o := by
  unfold State.onsetIf State.onset State.latch
  split
  · exact h.of_eq rfl (fun _ => rfl) fun _ => .rfl
  · exact h

/-- The slot handed back waits for its entry (09 R166). -/
theorem State.requestSlot_sound {s : State} (h : s.JournalSound none) (f : Feeder) (c : TripCause) (b : Byte) :
    (s.requestSlot f c b).2.JournalSound (s.requestSlot f c b).1 := by
  unfold State.requestSlot
  dsimp only
  split
  · exact (h.sealSame f).append _ _ _ _
  · next j hj =>
    have htaken : ((s.sealSame f).modSlot j fun x => { x with state := .filling }).JournalSound (some j) :=
      (h.sealSame f).take (State.freeSlotNo_state hj) (by simp)
    exact State.JournalSound.capture (State.JournalSound.onsetIf htaken) f c b

theorem State.requestSlot_keeps (s : State) (f : Feeder) (c : TripCause) (b : Byte) (p : Port) (l : Latch)
    (h : (s.ports.get p).Shows l) : ((s.requestSlot f c b).2.ports.get p).Shows l := by
  unfold State.requestSlot
  dsimp only
  have hsame : ((s.sealSame f).ports.get p).Shows l := by rwa [State.sealSame_ports]
  split
  · exact State.appendRef_keeps _ _ _ _ _ _ _ _ hsame
  · rw [State.capture_ports]
    exact State.onsetIf_keeps _ _ _ _ _ hsame

/-- A request that takes the last FREE slot latches POOL_EMPTY (09 R166). -/
theorem State.requestSlot_pool (s : State) (f : Feeder) (c : TripCause) (b : Byte) (p : Port)
    (h : (s.requestSlot f c b).2.present .poolEmpty = true) :
    s.present .poolEmpty = true ∨ ((s.requestSlot f c b).2.ports.get p).Shows .poolEmpty := by
  have hsame : s.FreeStay (s.sealSame f) := by
    unfold State.sealSame
    split
    · next j hj =>
      have := List.find?_some hj
      exact s.sealTruncated_freeStay (by simp_all)
    · exact fun _ => id
  revert h
  unfold State.requestSlot
  dsimp only
  split
  · exact fun h => .inl ((hsame.trans (State.appendRef_freeStay _ _ _ _ _ _)).pool h)
  · next j hj =>
    intro h
    right
    rw [State.capture_ports]
    refine State.onsetIf_shows _ p .poolEmpty (Option.isNone_iff_eq_none.mpr (State.freeSlotNo_eq_none fun i hi => ?_))
    rw [State.present_poolEmpty_iff] at h
    rw [← State.onsetIf_slots _ (Option.isNone _) .poolEmpty] at hi
    refine h i (State.capture_freeStay _ ?_ f c b i hi)
    rw [State.onsetIf_slots, State.modSlot_get, if_pos rfl]
    simp

end

end Sys2Proof.Machine
end


section
/-! PROOFS. The sequencer, the discriminator, the section table, the links and the ports stay in the relation of the
journal, the latches, the gates and the map: one lemma per operation, in the order of the model's files. -/

-- One text with the model: proofs elaborated side by side would need more threads than the check's memory holds.
set_option Elab.async false

namespace Sys2Proof.Machine

section
variable {ex : List Latch} {r s before : State} {f : Feeder} {l : Link} {i : Index} {p : Port}
variable {k : Kind} {x : Subject} {d : Detail} {v : Int} {n : Nat} {b : Byte} {a auto : Bool} {cause : TripCause}
variable {lock : LockCause} {disp : Disposition} {tag : Tag} {tags : List Tag}

/-! ## Updates of one unit -/

theorem State.Logs.modCtx {g : Context → Context} (h : r.Logs ex s) : r.Logs ex (s.modCtx f g) :=
  h.trans (State.SameSources.logs_of_eq (by constructor <;> simp) rfl rfl rfl fun _ => rfl)

theorem State.Logs.modLine {g : LineTest → LineTest} (h : r.Logs ex s) : r.Logs ex (s.modLine g) :=
  h.trans (State.SameSources.logs_of_eq (by constructor <;> simp) rfl rfl rfl fun _ => rfl)

theorem State.Logs.modDisc {g : Disc → Disc} (h : r.Logs ex s) : r.Logs ex (s.modDisc f g) :=
  h.trans (State.SameSources.logs_of_eq (by constructor <;> simp) rfl rfl rfl fun _ => rfl)

theorem State.Logs.modTrips {g : TripQueue → TripQueue} (h : r.Logs ex s) : r.Logs ex (s.modTrips g) :=
  h.trans (State.SameSources.logs_of_eq (by constructor <;> simp) rfl rfl rfl fun _ => rfl)

theorem State.Logs.modLink {g : LinkUnit → LinkUnit} (h : r.Logs ex s) (hg : ∀ k, (g k).state = k.state := by intro k; rfl) :
    r.Logs ex (s.modLink l g) := by
  refine h.trans (State.SameSources.logs_of_eq ?_ rfl rfl rfl fun _ => rfl)
  constructor <;> simp
  intro m
  split
  · next hlm => rw [hg, hlm]
  · rfl

theorem State.Logs.modSection {g : Section → Section} (h : r.Logs ex s)
    (hm : ∀ y, (g y).mapping = y.mapping := by intro y; rfl) (hc : ∀ y, (g y).coord = y.coord := by intro y; rfl) :
    r.Logs ex (s.modSection f g) := by
  refine h.trans (State.SameSources.logs_of_eq ?_ rfl rfl rfl fun _ => rfl)
  constructor
  case mapping | coord =>
    intro j
    rw [State.modSection_get]
    split
    · next hfj => subst hfj; simp only [hm, hc]
    · rfl
  all_goals simp

theorem State.Logs.modPort {g : PortUnit → PortUnit} (h : r.Logs ex s) (hg : ∀ u, (g u).latches = u.latches := by intro u; rfl) :
    r.Logs ex (s.modPort p g) := by
  refine h.trans (State.SameSources.logs_of_eq (by constructor <;> simp) rfl rfl rfl fun q => ?_)
  rw [State.modPort_get]
  split
  · next hpq => rw [hg, hpq]
  · rfl

/-! ## The transmit queues -/

theorem LinkUnit.ask_state (k : LinkUnit) (x : Frame) : (k.ask x).state = k.state := by
  unfold LinkUnit.ask
  dsimp only
  split_ifs <;> rfl

theorem State.Logs.modIndex {g : IndexUnit → IndexUnit} (h : r.Logs ex s) : r.Logs ex (s.modIndex l i g) := h.modLink

theorem State.Logs.ask {y : Frame} (h : r.Logs ex s) : r.Logs ex (s.ask l y) := h.modLink fun k => k.ask_state y

theorem State.Logs.askFor {y : Index → Frame} (h : r.Logs ex s) : r.Logs ex (s.askFor f y) := by
  unfold State.askFor
  split
  · exact h.ask
  · exact h

theorem State.Logs.sendTripReq (h : r.Logs ex s) : r.Logs ex (s.sendTripReq f) := by
  unfold State.sendTripReq
  split
  · exact h
  · exact h.modIndex.ask.append

/-! ## The breaker sequencer and the line test unit (05, 06) -/

theorem State.Logs.leaveQueue (h : r.Logs ex s) : r.Logs ex (s.leaveQueue f) := h.modLine

theorem State.Logs.recordResult {y : LastResult} (h : r.Logs ex s) : r.Logs ex (s.recordResult f y) := h.append.modLine

theorem State.Logs.abortTest (h : r.Logs ex s) : r.Logs ex (s.abortTest f a) := by
  unfold State.abortTest
  exact h.modLine.recordResult.ite h

theorem State.Logs.undoReclose (h : r.Logs ex s) : r.Logs ex (s.undoReclose f) := h.modCtx.leaveQueue.abortTest

theorem State.Logs.enterLocked (h : r.Logs ex s) : r.Logs ex (s.enterLocked f lock) := by
  unfold State.enterLocked
  extract_lets t u
  have hu : r.Logs ex u := h.modCtx.leaveQueue.abortTest.append
  exact hu.askFor.ite hu

theorem State.Logs.applyDisposition (h : r.Logs ex s) : r.Logs ex (s.applyDisposition f disp) := by
  unfold State.applyDisposition
  split
  · exact h.modCtx
  · exact h.modCtx
  · exact h.modCtx
  · exact h.modCtx.ite (h.enterLocked.ite h.enterLocked)
  · exact h.enterLocked

theorem State.Logs.completeTrip (h : r.Logs ex s) : r.Logs ex (s.completeTrip f) := h.modCtx.append.applyDisposition

theorem State.Logs.tripEntry (h : r.Logs ex s) : r.Logs ex (s.tripEntry f cause v b) := by
  unfold State.tripEntry
  split
  · exact h
  split
  · refine h.trans (State.SameSources.logs ?_ (fun hs => ?_) (fun q c hc => ?_) fun q hq => ?_)
    · exact ((s.requestSlot_only f cause b).trans (State.appendRef_only _ _ _ _ _ _)).sameSources
    · exact (State.requestSlot_sound hs f cause b).appendRef _ _ _ _
    · exact State.appendRef_keeps _ _ _ _ _ _ _ _ (s.requestSlot_keeps f cause b q c hc)
    · exact (s.requestSlot_pool f cause b q ((State.appendRef_freeStay _ _ _ _ _ _).pool hq)).imp_right
        (State.appendRef_keeps _ _ _ _ _ _ _ _)
  · exact h.append

theorem State.Logs.trip (h : r.Logs ex s) : r.Logs ex (s.trip f cause disp v b) := by
  unfold State.trip
  extract_lets t u w
  have hu : r.Logs ex u := h.modCtx.tripEntry
  have hw : r.Logs ex w := hu.sendTripReq.ite hu
  exact hw.ite hw.completeTrip

theorem State.Logs.tripRequest (h : r.Logs ex s) : r.Logs ex (s.tripRequest f cause disp v b) := by
  unfold State.tripRequest
  exact h.trip.ite h

theorem State.Logs.protectionTrip (h : r.Logs ex s) : r.Logs ex (s.protectionTrip f cause v b n) := h.tripRequest

theorem State.Logs.cancelTo (h : r.Logs ex s) : r.Logs ex (s.cancelTo f d) := h.modCtx.leaveQueue.append.abortTest

theorem State.Logs.commandedOpen (h : r.Logs ex s) : r.Logs ex (s.commandedOpen f cause) := by
  unfold State.commandedOpen
  split
  · exact h.trip
  · exact h.trip
  all_goals first | exact h.cancelTo | exact h

theorem State.Logs.cancel (h : r.Logs ex s) : r.Logs ex (s.cancel f) := by
  unfold State.cancel
  split
  all_goals first | exact h.cancelTo | exact h

theorem State.Logs.barFeeder (h : r.Logs ex s) : r.Logs ex (s.barFeeder f cause) := by
  unfold State.barFeeder
  split
  · exact h.commandedOpen
  · exact h.commandedOpen
  · exact h.cancel

theorem State.Logs.failedAttempt (h : r.Logs ex s) : r.Logs ex (s.failedAttempt f d) := by
  unfold State.failedAttempt
  extract_lets m t
  have ht : r.Logs ex t := h.modCtx.append
  exact h.append.enterLocked.ite (ht.enterLocked.ite (ht.modCtx.ite ht.modCtx))

theorem State.Logs.enterClosing (h : r.Logs ex s) : r.Logs ex (s.enterClosing f) := h.modCtx

theorem State.Logs.interlockFails (h : r.Logs ex s) : r.Logs ex (s.interlockFails f) := h.modCtx.append

theorem State.Logs.joinQueue (h : r.Logs ex s) : r.Logs ex (s.joinQueue f a) := h.modCtx.modLine

theorem State.Logs.deadTimeEnd (h : r.Logs ex s) : r.Logs ex (s.deadTimeEnd f) := by
  unfold State.deadTimeEnd
  exact h.joinQueue.ite h.interlockFails

theorem State.Logs.coolNotice (h : r.Logs ex s) : r.Logs ex (s.coolNotice f) := by
  unfold State.coolNotice
  exact h.deadTimeEnd.ite h

theorem State.Logs.lockoutDemand (h : r.Logs ex s) : r.Logs ex (s.lockoutDemand f lock) := by
  unfold State.lockoutDemand
  split
  case h_6 =>
    split
    · exact h
    · exact h.modCtx.ite h
  all_goals first | exact h.enterLocked.ite h | exact h.enterLocked | exact h

theorem State.Logs.eoffFeeder (h : r.Logs ex s) : r.Logs ex (s.eoffFeeder f) := by
  unfold State.eoffFeeder
  split
  all_goals first | exact h.trip | exact h.enterLocked | exact h.modCtx | exact h

theorem State.Logs.lineFails (h : r.Logs ex s) : r.Logs ex (s.lineFails f) := by
  unfold State.lineFails
  exact h.failedAttempt.ite h.modCtx

theorem State.Logs.beginTest (h : r.Logs ex s) : r.Logs ex (s.beginTest f) := h.modCtx.modLine

theorem State.Logs.takeHead (h : r.Logs ex s) : r.Logs ex (s.takeHead f) := by
  unfold State.takeHead
  exact h.interlockFails.ite (h.recordResult.lineFails.ite (h.recordResult.lineFails.ite
    (h.recordResult.enterClosing.ite h.beginTest)))

theorem State.Logs.takeHeads (h : r.Logs ex s) : r.Logs ex (s.takeHeads n) := by
  induction n generalizing s with
  | zero => exact h
  | succ n ih =>
    unfold State.takeHeads
    split
    · exact h
    split
    · exact h
    · exact ih h.modLine.takeHead

theorem State.Logs.settle (h : r.Logs ex s) : r.Logs ex s.settle := h.takeHeads

theorem State.Logs.endTest (h : r.Logs ex s) : r.Logs ex (s.endTest f) := by
  unfold State.endTest
  have ht {y : LastResult} {g : LineTest → LineTest} : r.Logs ex ((s.modLine g).recordResult f y) := h.modLine.recordResult
  exact (ht.enterClosing.ite ht.interlockFails).ite ht.lineFails

/-! ## The discriminator (04) -/

theorem State.Logs.evalEntries {es : List (Kind × Detail × Int)} (h : r.Logs ex s) : r.Logs ex (s.evalEntries f es) :=
  h.foldl es fun _ _ ht => ht.append

theorem State.Logs.handOver {call : Option (TripCause × Int)} (h : r.Logs ex s) : r.Logs ex (s.handOver before f call) := by
  rw [State.handOver_eq]
  exact h.modTrips

theorem State.Logs.evaluate (h : r.Logs ex s) : r.Logs ex (s.evaluate f a) := by
  unfold State.evaluate
  have ht {g : Disc → Disc} {es : List (Kind × Detail × Int)} : r.Logs ex ((s.modDisc f g).evalEntries f es) :=
    h.modDisc.evalEntries
  exact (ht.coolNotice.ite ht).handOver

theorem State.Logs.discriminate (h : r.Logs ex s) : r.Logs ex (s.discriminate a) := h.foldl feeders fun _ _ ht => ht.evaluate

theorem State.Logs.takeTrip {y : TripCall} (h : r.Logs ex s) : r.Logs ex (s.takeTrip y) := h.protectionTrip

theorem State.Logs.offerTrip {y : TripCall} (h : r.Logs ex s) : r.Logs ex (s.offerTrip y) := by
  unfold State.offerTrip
  split
  · exact h.modTrips
  · exact h.modTrips.takeTrip
  · exact h.takeTrip

theorem State.Logs.offerTrips (h : r.Logs ex s) : r.Logs ex s.offerTrips := h.modTrips.foldl _ fun _ _ ht => ht.offerTrip

/-! ## The section table (07) -/

theorem State.Logs.announce (h : r.Logs ex s) : r.Logs ex (s.announce before f) := by
  unfold State.announce
  split
  · exact (h.foldl _ fun _ _ ht => ht.askFor).foldl _ fun _ _ ht => ht.askFor
  · exact h

theorem State.Logs.addPeer (h : r.Logs ex s) : r.Logs ex (s.addPeer f tag) := by
  unfold State.addPeer
  exact h.barFeeder.ite (h.modSection.barFeeder.append.ite h.modSection.barFeeder.append)

theorem State.Logs.delPeer (h : r.Logs ex s) : r.Logs ex (s.delPeer f tag) := by
  unfold State.delPeer
  exact h.modSection.append.ite h

theorem State.Logs.tagEntries (h : r.Logs ex s) : r.Logs ex (s.tagEntries f k d tags) := h.foldl tags fun _ _ ht => ht.append

theorem State.Logs.overflowEntry (h : r.Logs ex s) : r.Logs ex (s.overflowEntry f a auto tag) := by
  unfold State.overflowEntry
  exact h.append.ite (h.append.ite h)

theorem State.Logs.replacePeers (h : r.Logs ex s) : r.Logs ex (s.replacePeers f tags) := by
  unfold State.replacePeers
  extract_lets x distinct new more t u
  have ht : r.Logs ex t := h.modSection
  have hu : r.Logs ex u := ht.barFeeder.ite ht
  exact hu.tagEntries.tagEntries.overflowEntry

theorem State.Logs.writeSummary {y : Summary} (h : r.Logs ex s) : r.Logs ex (s.writeSummary f y) := by
  unfold State.writeSummary
  extract_lets t x
  have ht : r.Logs ex t := h.modSection
  exact ht.modSection.overflowEntry.ite ht

theorem State.Logs.coordDemand {w : Coordination} (h : r.Logs ex s) : r.Logs ex (s.coordDemand f w) := by
  unfold State.coordDemand
  split
  · exact h.lockoutDemand
  · exact h.lockoutDemand
  · exact h
  · exact h

/-! ## Coordination (07 R130) -/

theorem State.allCoordinated_iff (s : State) :
    s.allCoordinated = true ↔ ∀ f : Feeder, s.sections[f].mapping = none ∨ s.sections[f].coord = .coordinated := by
  have hmem (f : Feeder) : f ∈ feeders := by revert f; decide
  simp only [State.allCoordinated, List.all_eq_true, Bool.or_eq_true, Option.isNone_iff_eq_none, decide_eq_true_eq]
  exact ⟨fun h f => h f (hmem f), fun h f _ => h f⟩

theorem State.present_uncoordinated_iff (s : State) : s.present .uncoordinated = true ↔ s.allCoordinated = false := by
  simp only [State.present, State.allCoordinated, List.any_eq_true, List.all_eq_false, Bool.and_eq_true, bne_iff_ne,
    Bool.or_eq_true, not_or, decide_eq_true_eq]
  refine exists_congr fun f => and_congr_right fun _ => and_congr_left fun _ => ?_
  cases s.sections[f].mapping <;> simp

/-- A section's coordination is seen by UNCOORDINATED alone. -/
theorem State.modSection_present {g : Section → Section} {c : Latch} (hm : ∀ y, (g y).mapping = y.mapping)
    (hc : c ≠ .uncoordinated) : (s.modSection f g).present c = s.present c := by
  have hmap (j : Feeder) : (s.modSection f g).sections[j].mapping = s.sections[j].mapping := by
    rw [State.modSection_get]
    split
    · next hfj => subst hfj; exact hm _
    · rfl
  cases c with
  | uncoordinated => exact absurd rfl hc
  | linkUDown | linkDDown => simp only [State.present, State.mappedTo, hmap]; rfl
  | _ => rfl

theorem State.Logs.modSection_coord {g : Section → Section} (h : r.Logs ex s) (hu : .uncoordinated ∈ ex)
    (hm : ∀ y, (g y).mapping = y.mapping) (hs : (g s.sections[f]).coord = .single ↔ s.sections[f].mapping = none) :
    r.Logs ex (s.modSection f g) := by
  have hmap (j : Feeder) : (s.modSection f g).sections[j].mapping = s.sections[j].mapping := by
    rw [State.modSection_get]
    split
    · next hfj => subst hfj; exact hm _
    · rfl
  refine h.trans ⟨⟨State.logsCore_of_eq rfl rfl rfl (fun _ => rfl) rfl fun c hc hp => ?_, id⟩, fun hsing j => ?_, hmap, rfl⟩
  · exact (State.modSection_present hm fun heq : c = .uncoordinated => hc (heq ▸ hu)) ▸ hp
  · rw [hmap, State.modSection_get]
    split
    · next hfj => subst hfj; exact hs
    · exact hsing j

/-- A mapped section's coordination changes; that a section is left uncoordinated is an onset where none was. -/
theorem State.Logs.setCoordination {w : Coordination} (h : r.Logs ex s) (hm : s.sections[f].mapping ≠ none) (hw : w ≠ .single) :
    r.Logs ex (s.setCoordination f w s.allCoordinated) := by
  unfold State.setCoordination
  split
  · exact h
  extract_lets t
  have ht : s.Logs (.uncoordinated :: ex) t :=
    (State.Logs.refl _ s).modSection_coord List.mem_cons_self (fun _ => rfl) (iff_of_false hw hm)
  refine h.trans ?_
  by_cases hc : w = .coordinated
  · refine (ht.cover fun _ hp => .inl ?_).coordDemand.append.onsetIf
    rw [State.present_uncoordinated_iff, Bool.eq_false_iff, ne_eq, State.allCoordinated_iff] at hp ⊢
    refine fun hall => hp fun j => ?_
    rw [State.modSection_get]
    split
    · exact .inr hc
    · exact hall j
  · refine ht.coordDemand.append.onsetIf.cover fun q _ => ?_
    by_cases hall : s.allCoordinated = true
    · exact .inr (State.onsetIf_shows _ q _ (by simp only [hall, Option.isSome_iff_ne_none.mpr hm, bne_iff_ne.mpr hc, Bool.and_self]))
    · exact .inl (s.present_uncoordinated_iff.mpr (Bool.eq_false_iff.mpr hall))

/-! ## The transactions of the ports (10 R173 to R175) -/

theorem State.Logs.select {low : Bool} (h : r.Logs ex s) :
    r.Logs ex ({ s with inputs := Inputs.setSelect s.inputs p low } : State) :=
  h.trans (State.SameSources.logs_of_eq (by cases p <;> constructor <;> simp [Inputs.setSelect]) rfl rfl rfl fun _ => rfl)

theorem State.Logs.raiseSelect (h : r.Logs ex s) : r.Logs ex (s.raiseSelect p) := by
  unfold State.raiseSelect
  exact h.select.modPort

theorem State.Logs.lowerSelect (h : r.Logs ex s) : r.Logs ex (s.lowerSelect p) := by
  unfold State.lowerSelect
  exact h.select.modPort

theorem State.Logs.firstByte (h : r.Logs ex s) : r.Logs ex (s.firstByte p) := h.modPort

theorem State.Logs.receiveBytes {bytes : List Byte} (h : r.Logs ex s) : r.Logs ex (s.receiveBytes p bytes) := by
  unfold State.receiveBytes
  split
  · exact h
  · exact h.firstByte.modPort

theorem State.Logs.receiveRequest {req : List Byte} (h : r.Logs ex s) : r.Logs ex (s.receiveRequest p req) := by
  unfold State.receiveRequest
  exact (h.firstByte.ite h).ite h.raiseSelect.lowerSelect.firstByte

/-- The judgement stays in the relation from every state. -/
def JudgeLogs (judge : State → Reply) : Prop := ∀ (ex : List Latch) (s : State), s.Logs ex (judge s).state

theorem State.Logs.serve {c : Instr} {judge : State → Reply} (h : r.Logs ex s) (hj : JudgeLogs judge) :
    r.Logs ex (s.serve p c judge) := by
  unfold State.serve Reply.respond
  exact (h.receiveRequest.trans (hj ex _)).modPort

theorem judgeLogs_answer (data : State → List Byte) : JudgeLogs fun s => s.answer (data s) := fun ex s => .refl ex s

theorem judgeLogs_refuse (res : Result) : JudgeLogs fun s => s.refuse res := fun ex s => .refl ex s

theorem JudgeLogs.authorised {judge : State → Reply} (h : JudgeLogs judge) (p : Port) :
    JudgeLogs fun s => s.authorised p (judge s) := by
  intro ex s
  dsimp only [State.authorised]
  split
  · exact h ex s
  · exact .refl ex s

theorem judgeLogs_forFeeder {act : State → Feeder → Reply} (h : ∀ f, JudgeLogs fun s => act s f) (b : Byte) :
    JudgeLogs fun s => s.forFeeder b (act s) := by
  intro ex s
  dsimp only [State.forFeeder]
  split
  · exact h _ ex s
  · exact .refl ex s

/-! ## The readers (09 R160 to R163) -/

/-- A reader's cursor moves to a number of the journal, or goes. -/
theorem State.Logs.modReader {g : Reader → Reader} (h : r.Logs ex s)
    (hg : s.JournalNumbered → ∀ c, (g (s.readers.get p)).cursor = some c →
      (s.readers.get p).cursor = some c ∨ c = s.journal.seq ∨ c ∈ s.journal.entries.map Entry.seq) :
    r.Logs ex (s.modReader p g) := by
  refine h.trans ((s.modReader_only p g).logs (fun hs => ?_) (fun _ _ => id) fun _ => id)
  refine ⟨hs.numbered, fun q c hc => ?_, hs.refs, hs.taken⟩
  rw [State.modReader_get] at hc
  split at hc
  · next hpq =>
    subst hpq
    exact (hg hs.numbered c hc).elim (hs.cursors p c) id
  · exact hs.cursors q c hc

theorem State.firstSeq_mem (s : State) : s.firstSeq = s.journal.seq ∨ s.firstSeq ∈ s.journal.entries.map Entry.seq := by
  rw [State.firstSeq_eq]
  cases s.journal.entries with
  | nil => exact .inl rfl
  | cons e rest => exact .inr List.mem_cons_self

theorem State.attach_logs (p : Port) : JudgeLogs fun s => s.attach p := by
  intro ex s
  have hfirst (g : Reader → Reader) (hg : ∀ u, (g u).cursor = some s.firstSeq) : s.Logs ex (s.modReader p g) :=
    (State.Logs.refl ex s).modReader fun _ c hc => .inr (Option.some.inj ((hg _).symm.trans hc) ▸ s.firstSeq_mem)
  dsimp only [State.attach]
  split
  · exact hfirst (fun r => { r with cursor := some s.firstSeq }) fun _ => rfl
  · exact hfirst (fun r => { r with cursor := some s.firstSeq, lost := 0 }) fun _ => rfl

theorem State.detach_logs (p : Port) : JudgeLogs fun s => s.detach p := by
  intro ex s
  dsimp only [State.detach]
  split
  · refine ((State.Logs.refl ex s).modReader fun _ c hc => ?_).retire
    cases hc
  · exact .refl ex s

/-- The number after that of an entry of the journal is in it, or is the counter. -/
theorem State.JournalNumbered.next_mem {s : State} (h : s.JournalNumbered) {old rest : List Entry} {e : Entry}
    (hes : s.journal.entries = old ++ e :: rest) :
    e.seq + 1 = s.journal.seq ∨ e.seq + 1 ∈ s.journal.entries.map Entry.seq := by
  have hseq := h.2
  rw [hes] at hseq ⊢
  clear h hes
  induction old with
  | nil =>
    exact (next_number_mem (ns := rest.map Entry.seq) (by simpa using hseq)).imp_right fun hmem => List.mem_cons_of_mem _ hmem
  | cons o old ih =>
    have htail : (old ++ e :: rest).map Entry.seq = numbersBefore s.journal.seq (old ++ e :: rest).length := by
      rw [List.cons_append, List.length_cons, numbersBefore_succ_cons] at hseq
      exact (List.cons.inj hseq).2
    exact (ih htail).imp_right fun hmem => List.mem_cons_of_mem _ hmem

theorem State.fetch_logs (p : Port) : JudgeLogs fun s => s.fetch p := by
  intro ex s
  dsimp only [State.fetch]
  split
  · exact .refl ex s
  · next e rest hunread =>
    refine ((State.Logs.refl ex s).modReader fun hnum c hc => .inr ?_).retire
    obtain rfl := Option.some.inj hc
    unfold State.unread at hunread
    split at hunread
    · cases hunread
    · exact hnum.next_mem ((List.takeWhile_append_dropWhile ..).symm.trans (congrArg _ hunread))

theorem State.setMask_logs (p : Port) (mask : Byte) : JudgeLogs fun s => s.setMask p mask := by
  intro ex s
  dsimp only [State.setMask]
  split
  · exact .refl ex s
  · exact (State.Logs.refl ex s).modReader (g := fun r => { r with mask := mask }) fun _ _ hc => .inl hc

theorem State.readRecord_logs (slot first count : Nat) : JudgeLogs fun s => s.readRecord slot first count := by
  intro ex s
  dsimp only [State.readRecord]
  split_ifs <;> exact .refl ex s

theorem State.readSetting_logs (id : Nat) : JudgeLogs fun s => s.readSetting id := by
  intro ex s
  dsimp only [State.readSetting]
  split <;> exact .refl ex s

theorem State.readLink_logs (link : Byte) : JudgeLogs fun s => s.readLink link := by
  intro ex s
  dsimp only [State.readLink]
  split <;> exact .refl ex s

/-! ## The feeder commands and position events (05) -/

theorem State.Logs.stuckOpens (h : r.Logs ex s) : r.Logs ex (s.stuckOpens f) := h.append.enterLocked

theorem State.Logs.contextOpens (h : r.Logs ex s) : r.Logs ex (s.contextOpens f) := by
  unfold State.contextOpens
  split
  · exact h.completeTrip
  · exact h.protectionTrip
  · exact h.stuckOpens
  all_goals exact h

theorem State.Logs.activateBlocks (h : r.Logs ex s) : r.Logs ex (s.activateBlocks f) :=
  h.modSection.foldl _ fun _ _ ht => ht.append

theorem State.Logs.showBreaker (h : r.Logs ex s) : r.Logs ex (s.showBreaker f a) :=
  h.trans (State.SameSources.logs_of_eq (by constructor <;> simp [State.showBreaker]) rfl rfl rfl fun _ => rfl)

theorem State.Logs.closeDone (h : r.Logs ex s) : r.Logs ex (s.closeDone f) := by
  unfold State.closeDone
  extract_lets c t u
  have ht : r.Logs ex t := h.modCtx
  exact (ht.askFor.ite ht).append

theorem State.Logs.unexpectedClose (h : r.Logs ex s) : r.Logs ex (s.unexpectedClose f) := by
  unfold State.unexpectedClose
  exact h.undoReclose.modCtx.trip.ite h.undoReclose.modCtx.append

theorem State.Logs.contextCloses (h : r.Logs ex s) : r.Logs ex (s.contextCloses f) := by
  unfold State.contextCloses
  split
  · exact h.closeDone
  all_goals first | exact h.unexpectedClose | exact h

theorem State.Logs.loadBlank (h : r.Logs ex s) : r.Logs ex (s.loadBlank f) := h.modDisc

theorem State.Logs.closeFails (h : r.Logs ex s) : r.Logs ex (s.closeFails f) := by
  unfold State.closeFails
  exact h.failedAttempt.ite h.modCtx.append

theorem State.Logs.backupTrip (h : r.Logs ex s) : r.Logs ex (s.backupTrip f) := by
  unfold State.backupTrip
  exact h.trip.ite h

theorem State.closeFeeder_logs (f : Feeder) : JudgeLogs fun s => s.closeFeeder f := by
  intro ex s
  have h := State.Logs.refl ex s
  dsimp only [State.closeFeeder]
  split
  · exact h
  split
  · exact h
  split
  · exact h
  · exact h.modCtx.enterClosing.ite h.modCtx.joinQueue

theorem State.openFeeder_logs (f : Feeder) : JudgeLogs fun s => s.openFeeder f := by
  intro ex s
  have h := State.Logs.refl ex s
  dsimp only [State.openFeeder]
  split
  all_goals first | exact h.commandedOpen | exact h

theorem State.resetFeeder_logs (f : Feeder) : JudgeLogs fun s => s.resetFeeder f := by
  intro ex s
  have h := State.Logs.refl ex s
  dsimp only [State.resetFeeder]
  split
  · exact h
  split
  · exact h
  · exact h.modCtx.append

/-! ## Blocks, earthing, authority (07) -/

theorem State.placeBlock_logs (p : Port) (tag : Tag) (openFirst : Byte) (f : Feeder) :
    JudgeLogs fun s => s.placeBlock p tag openFirst f := by
  intro ex s
  have h := State.Logs.refl ex s
  dsimp only [State.placeBlock]
  split
  · exact h
  split
  · exact h
  split
  · exact h
  split
  · exact h
  · exact h.barFeeder.modSection.append.announce

theorem State.removeBlock_logs (p : Port) (tag : Tag) (f : Feeder) : JudgeLogs fun s => s.removeBlock p tag f := by
  intro ex s
  have h := State.Logs.refl ex s
  dsimp only [State.removeBlock]
  split
  · exact h
  split
  · exact h.modSection.append.announce
  · exact h

theorem State.Logs.showEarth (h : r.Logs ex s) : r.Logs ex (s.showEarth f a) :=
  h.trans (State.SameSources.logs_of_eq (by constructor <;> simp [State.showEarth]) rfl rfl rfl fun _ => rfl)

/-! ## The links (08) -/

theorem State.Logs.countBad (h : r.Logs ex s) : r.Logs ex (s.countBad l) := h.modLink

theorem State.Logs.countIgnored (h : r.Logs ex s) : r.Logs ex (s.countIgnored l) := h.modLink

theorem State.Logs.restartLoss (h : r.Logs ex s) : r.Logs ex (s.restartLoss l) := h.modLink

theorem State.Logs.linkEntry (h : r.Logs ex s) : r.Logs ex (s.linkEntry l v) := h.append

theorem State.Logs.takeSummaries {w : Vector Summary 4} (h : r.Logs ex s) : r.Logs ex (s.takeSummaries l w) :=
  h.foldl indices fun _ _ ht => by
    dsimp only
    split
    · exact ht.modIndex.writeSummary
    · exact ht.modIndex

theorem Mapping.evaluate_ne_single (m : Mapping) (w : Vector Summary 4) : m.evaluate w ≠ .single := by
  unfold Mapping.evaluate
  split <;> simp

theorem State.Logs.evaluateSection {w : Vector Summary 4} (h : r.Logs ex s) : r.Logs ex (s.evaluateSection l w f) := by
  unfold State.evaluateSection
  split
  · next m hm => exact (h.setCoordination (by simp only [hm, ne_eq, reduceCtorEq, not_false_iff]) (m.evaluate_ne_single w)).ite h
  · exact h

theorem State.Logs.askBecame (h : r.Logs ex s) : r.Logs ex (s.askBecame before l) := h.foldl _ fun _ _ ht => ht.askFor

theorem State.Logs.handleStatus {w : Vector Summary 4} (h : r.Logs ex s) : r.Logs ex (s.handleStatus l w) :=
  (h.takeSummaries.foldl _ fun _ _ ht => ht.evaluateSection).askBecame

/-- The link's condition can end: what it takes to be present besides stays as it is. -/
theorem State.Logs.modLink_state {g : LinkUnit → LinkUnit} (h : r.Logs ex s)
    (hg : (s.links.get l).state = .up → linkLatch l ∉ ex → (g (s.links.get l)).state = .up) : r.Logs ex (s.modLink l g) := by
  refine h.trans ⟨⟨State.logsCore_of_eq rfl rfl rfl (fun _ => rfl) rfl fun c hc hp => ?_, id⟩, id, fun _ => rfl, rfl⟩
  cases l <;> cases c
  case u.linkUDown | d.linkDDown =>
    simp only [State.present, Bool.and_eq_true, bne_iff_ne, ne_eq] at hp ⊢
    exact ⟨fun hup => hp.1 (hg hup hc), hp.2⟩
  all_goals exact hp

theorem State.Logs.takeStatus {w : Vector Summary 4} (h : r.Logs ex s) : r.Logs ex (s.takeStatus l w) := by
  unfold State.takeStatus
  split
  · next hdown => exact (h.modLink_state fun hup => nomatch hdown.symm.trans hup).linkEntry
  · exact (h.modLink_state fun _ _ => rfl).handleStatus.linkEntry
  · exact h.handleStatus

theorem State.Logs.takeTripAck (h : r.Logs ex s) : r.Logs ex (s.takeTripAck l i b) := by
  unfold State.takeTripAck
  split
  · exact h
  · exact h.modIndex.append.ite h

theorem State.Logs.intertripFeeder (h : r.Logs ex s) : r.Logs ex (s.intertripFeeder f b) := by
  unfold State.intertripFeeder
  split
  · exact h.protectionTrip
  all_goals first | exact h.undoReclose.failedAttempt | exact h

theorem State.Logs.takeTripReq (h : r.Logs ex s) : r.Logs ex (s.takeTripReq l i b) := by
  unfold State.takeTripReq
  split
  · exact h.countIgnored
  · exact h.ask.ite h.ask.modIndex.append.intertripFeeder

theorem State.Logs.takeFor {act : State → Feeder → State} (h : r.Logs ex s) (hact : ∀ f, r.Logs ex (act s f)) :
    r.Logs ex (s.takeFor l i act) := by
  unfold State.takeFor
  split
  · exact h.countIgnored
  · exact h.countIgnored.ite (hact _)

theorem State.Logs.restoredFeeder (h : r.Logs ex s) : r.Logs ex (s.restoredFeeder f) := by
  unfold State.restoredFeeder
  exact (h.append.modCtx.enterClosing.ite h.append.interlockFails).ite h.append

theorem State.Logs.lockoutNotice (h : r.Logs ex s) : r.Logs ex (s.lockoutNotice f) := h.append.lockoutDemand

theorem State.Logs.takeFrame {y : PeerFrame} (h : r.Logs ex s) : r.Logs ex (s.takeFrame l y) := by
  cases y with
  | status w => exact h.takeStatus
  | tripReq i id => exact h.takeTripReq
  | tripAck i id => exact h.takeTripAck
  | restored i => exact h.takeFor fun _ => h.restoredFeeder
  | lockout i => exact h.takeFor fun _ => h.lockoutNotice
  | blockAdd i t => exact h.takeFor (act := fun s f => s.addPeer f t) fun _ => h.addPeer
  | blockDel i t => exact h.takeFor (act := fun s f => s.delPeer f t) fun _ => h.delPeer
  | blockSet i ts => exact h.takeFor (act := fun s f => s.replacePeers f ts) fun _ => h.replacePeers

theorem State.Logs.receive {y : PeerFrame} (h : r.Logs ex s) : r.Logs ex (s.receive l y) := by
  unfold State.receive
  exact h.countBad.ite (h.countIgnored.ite h.restartLoss.takeFrame.settle)

theorem State.Logs.loseIntertrip (h : r.Logs ex s) : r.Logs ex (s.loseIntertrip l i) := by
  unfold State.loseIntertrip
  split
  · exact h
  · exact h.modIndex.lockoutDemand.append

theorem State.Logs.retryIntertrip {o : Outstanding} (h : r.Logs ex s) : r.Logs ex (s.retryIntertrip l i o) := by
  unfold State.retryIntertrip
  exact h.modIndex.ask.ite h.modIndex.lockoutDemand.append

theorem State.Logs.transmitFrom {q : List Frame} (h : r.Logs ex s) : r.Logs ex (s.transmitFrom l q) := by
  induction q with
  | nil => exact h.modLink
  | cons y q ih =>
    unfold State.transmitFrom
    exact h.modLink.ite ih

end

end Sys2Proof.Machine
end


section
/-! PROOFS. The rectifier controller, the sample unit and the tracker stay in the relation of the journal, the latches,
the gates and the map; a gate is driven only where the rule of 03 R44 lets it be. -/

-- One text with the model: proofs elaborated side by side would need more threads than the check's memory holds.
set_option Elab.async false

namespace Sys2Proof.Machine

/-! ## The gates rule (03 R44) -/

/-- No gate output is driven. -/
def Rectifier.Released (r : Rectifier) : Prop := ∀ k : Gate, r.gates[k].driven = false

theorem Rectifier.quiet_released (r : Rectifier) : r.quiet.Released := by
  intro k
  simp [Rectifier.quiet]

theorem Rectifier.unfire_driven (r : Rectifier) (k : Gate) : r.unfire.gates[k].driven = r.gates[k].driven := by
  simp [Rectifier.unfire]

theorem State.mayFire_iff (s : State) : s.mayFire = true ↔ s.rect.state.firing = true
    ∧ (s.tracker.state = .locked ∨ s.tracker.state = .holdover) ∧ s.inputs.eoff = false ∧ s.inputs.acClosed = true := by
  simp [State.mayFire, and_assoc]

theorem State.gatesAllowed_of_released {s : State} (h : s.rect.Released) (hs : s.rect.state ≠ .gateTest) : s.GatesAllowed :=
  ⟨fun ht => absurd ht hs, fun k hk => by rw [h k] at hk; cases hk⟩

theorem State.gatesAllowed_of_mayFire {s : State} (h : s.mayFire = true) : s.GatesAllowed := by
  refine ⟨fun ht => ?_, fun _ _ => .inl h⟩
  rw [State.mayFire_iff, ht] at h
  cases h.1

section
variable {ex : List Latch} {r s before : State} {f : Feeder} {n : Nat} {v i : Int} {a : Bool} {note : RectNote}
variable {blame : Option Gate} {c : RectCause} {e : ShiftEnd} {per : Period} {g : Rectifier → Rectifier} {row : RingRow}

/-! ## Updates of the rectifier controller -/

theorem State.Logs.modRect (h : r.Logs ex s) (hg : s.GatesAllowed → (s.modRect g).GatesAllowed)
    (hhot : .absorberHot ∈ ex ∨ (g s.rect).hot = s.rect.hot := by exact .inr rfl) : r.Logs ex (s.modRect g) := by
  refine h.trans ⟨⟨State.logsCore_of_eq rfl rfl rfl (fun _ => rfl) rfl fun b hb hp => ?_, hg⟩, id, fun _ => rfl, rfl⟩
  cases b with
  | absorberHot => exact (hhot.resolve_left hb).symm.trans hp
  | _ => exact hp

/-- The state and the gate outputs stay. -/
theorem State.Logs.modRect_same (h : r.Logs ex s) (hs : (g s.rect).state = s.rect.state := by exact rfl)
    (hd : ∀ k : Gate, (g s.rect).gates[k].driven = s.rect.gates[k].driven := by exact fun _ => rfl)
    (hhot : .absorberHot ∈ ex ∨ (g s.rect).hot = s.rect.hot := by exact .inr rfl) : r.Logs ex (s.modRect g) := by
  refine h.modRect (fun ⟨htest, hgates⟩ => ⟨fun ht => htest (hs ▸ ht), fun k hk => ?_⟩) hhot
  have hfire : (s.modRect g).mayFire = s.mayFire := by simp only [State.mayFire, State.modRect_rect, hs]; rfl
  rw [hfire, State.modRect_rect, hs]
  exact hgates k ((hd k).symm.trans hk)

/-- Every gate output is released, outside a gate test. -/
theorem State.Logs.modRect_released (h : r.Logs ex s) (hr : (g s.rect).Released) (hs : (g s.rect).state ≠ .gateTest)
    (hhot : .absorberHot ∈ ex ∨ (g s.rect).hot = s.rect.hot := by exact .inr rfl) : r.Logs ex (s.modRect g) :=
  h.modRect (fun _ => State.gatesAllowed_of_released hr hs) hhot

/-- One firing state becomes another. -/
theorem State.Logs.modRect_firing (h : r.Logs ex s) (hwas : s.rect.state.firing = true) (hs : (g s.rect).state.firing = true)
    (hd : ∀ k : Gate, (g s.rect).gates[k].driven = s.rect.gates[k].driven := by exact fun _ => rfl)
    (hhot : .absorberHot ∈ ex ∨ (g s.rect).hot = s.rect.hot := by exact .inr rfl) : r.Logs ex (s.modRect g) := by
  refine h.modRect (fun ⟨_, hgates⟩ => ⟨fun ht => ?_, fun k hk => .inl ?_⟩) hhot
  · rw [State.modRect_rect] at ht
    rw [ht] at hs
    cases hs
  · have hfire := hgates k ((hd k).symm.trans hk)
    rw [State.mayFire_iff] at hfire ⊢
    rcases hfire with hfire | htest
    · exact ⟨hs, hfire.2⟩
    · rw [htest] at hwas
      cases hwas

/-! ## The rectifier controller (03) -/

theorem State.Logs.rectEntry (h : r.Logs ex s) : r.Logs ex (s.rectEntry note blame) := by
  unfold State.rectEntry
  split <;> exact h.append

/-- A start with the AC breaker closed, EOFF released and the tracker LOCKED. -/
theorem State.Logs.startUp (h : r.Logs ex s) (hac : s.inputs.acClosed = true) (heoff : s.inputs.eoff = false)
    (hlock : s.tracker.state = .locked) : r.Logs ex (s.startUp note) := by
  refine State.Logs.rectEntry (h.modRect fun _ => State.gatesAllowed_of_mayFire ?_)
  rw [State.mayFire_iff]
  exact ⟨rfl, .inl hlock, heoff, hac⟩

theorem State.Logs.tryRestart (h : r.Logs ex s) : r.Logs ex s.tryRestart := by
  unfold State.tryRestart
  split
  · next hmay =>
    simp only [State.mayRestart, Bool.and_eq_true, decide_eq_true_eq, Bool.not_eq_true'] at hmay
    exact h.startUp hmay.1.1.1.2 hmay.1.1.1.1.2 hmay.1.1.2
  · exact h

theorem State.Logs.enterStopped (h : r.Logs ex s) : r.Logs ex (s.enterStopped note) := by
  unfold State.enterStopped
  exact State.Logs.rectEntry (h.modRect_released s.rect.quiet_released (by simp))

theorem State.Logs.enterBlocked (h : r.Logs ex s) : r.Logs ex (s.enterBlocked c blame) := by
  unfold State.enterBlocked
  exact State.Logs.tryRestart (State.Logs.rectEntry (h.modRect_released s.rect.quiet_released (by simp)))

theorem State.Logs.finishShift (h : r.Logs ex s) : r.Logs ex (s.finishShift e blame) := by
  unfold State.finishShift
  split
  · exact h.enterStopped
  · exact h.enterBlocked

theorem State.Logs.retime (h : r.Logs ex s) : r.Logs ex s.retime := h.modRect_same

theorem State.Logs.beginShift (h : r.Logs ex s) (hf : s.rect.state.firing = true) : r.Logs ex (s.beginShift e blame) :=
  State.Logs.rectEntry (State.Logs.retime (h.modRect_firing hf rfl))

theorem State.Logs.shiftTo (h : r.Logs ex s) (hf : s.rect.state.firing = true) : r.Logs ex (s.shiftTo e blame) := by
  unfold State.shiftTo
  exact h.finishShift.ite (h.beginShift hf)

theorem State.Logs.replaceCause (h : r.Logs ex s) : r.Logs ex (s.replaceCause c blame) :=
  State.Logs.rectEntry h.modRect_same

theorem State.Logs.replaceEnd (h : r.Logs ex s) : r.Logs ex (s.replaceEnd e blame) :=
  State.Logs.rectEntry h.modRect_same

theorem State.Logs.abortGateTest (h : r.Logs ex s) : r.Logs ex s.abortGateTest := by
  refine State.Logs.append (h.modRect fun hg => ⟨hg.1, fun k hk => ?_⟩)
  rw [State.modRect_rect] at hk
  cases (s.rect.quiet_released k).symm.trans hk

theorem State.Logs.blockRequest (h : r.Logs ex s) : r.Logs ex (s.blockRequest c blame) := by
  unfold State.blockRequest
  refine State.Logs.modRect_same ?_ (by cases c <;> rfl) (by cases c <;> exact fun _ => rfl) (.inr (by cases c <;> rfl))
  unfold State.blockState
  split
  · exact h.enterBlocked.ite h
  · exact h.abortGateTest.enterBlocked.ite h
  · next hs => exact h.shiftTo (by rw [hs]; rfl)
  · next hs => exact h.shiftTo (by rw [hs]; rfl)
  · exact h.replaceEnd.ite h
  · exact h.replaceCause.ite h

theorem GateUnit.judge_driven (x : GateUnit) : x.judge.driven = x.driven := by
  unfold GateUnit.judge
  split <;> rfl

theorem State.Logs.verdicts (h : r.Logs ex s) : r.Logs ex s.verdicts := by
  unfold State.verdicts
  refine State.Logs.foldl (h.modRect_same rfl fun k => ?_) _ fun _ _ ht => ht.blockRequest
  simp [GateUnit.judge_driven]

theorem State.Logs.scheduleNow (h : r.Logs ex s) : r.Logs ex (s.scheduleNow per) := h.modRect_same

theorem State.Logs.regulate (h : r.Logs ex s) : r.Logs ex s.regulate := by
  unfold State.regulate
  split
  · exact h.modRect_same
  extract_lets v i alpha t
  have ht : r.Logs ex t := h.modRect_same
  split
  · next hs => exact State.Logs.rectEntry (ht.modRect_firing (by simp [t, hs.1, RectState.firing]) rfl)
  · exact ht

theorem State.Logs.shiftInstant (h : r.Logs ex s) : r.Logs ex (s.shiftInstant per) := by
  unfold State.shiftInstant
  extract_lets t
  have ht : r.Logs ex t := h.modRect_same
  exact ht.scheduleNow.ite ht.finishShift

theorem State.Logs.instantIn {was : RectState} (h : r.Logs ex s) : r.Logs ex (s.instantIn was per) := by
  unfold State.instantIn
  exact h.shiftInstant.ite (h.scheduleNow.ite (h.regulate.scheduleNow.ite h))

theorem State.Logs.takeInstant {t : Stamp} (h : r.Logs ex s) : r.Logs ex (s.takeInstant t v) := by
  unfold State.takeInstant
  extract_lets was per u
  have hu : r.Logs ex u := h.modRect_same
  exact (State.Logs.modRect_same hu.verdicts.instantIn).ite (hu.modRect_same rfl fun k => Rectifier.unfire_driven _ k)

theorem State.Logs.acOpenRect (h : r.Logs ex s) : r.Logs ex s.acOpenRect := by
  unfold State.acOpenRect
  split
  · exact h.enterStopped
  · exact h.enterStopped
  · split
    · exact h.enterBlocked.ite h.enterStopped
    · exact h.enterStopped
  · exact h.enterStopped.ite h
  · exact h
  · exact h

/-! ## What a delivered set does to the rectifier controller (01 R9 step 4) -/

theorem State.Logs.addSums (h : r.Logs ex s) : r.Logs ex s.addSums := by
  unfold State.addSums
  split
  case isFalse => exact h
  dsimp only
  refine h.modRect_same ?_ (fun k => ?_) (.inr ?_) <;> (repeat' split) <;> rfl

theorem State.Logs.busDifferential (h : r.Logs ex s) : r.Logs ex s.busDifferential.2 := by
  unfold State.busDifferential
  split
  · exact State.Logs.modRect_same (s := s) h (g := fun r => { r with diffRun := 0 })
  split
  · dsimp only
    split
    · split <;> dsimp only <;> exact h.modRect_same
    · dsimp only
      exact h.modRect_same
  · exact h

theorem State.Logs.tripRequests {lock : TripCause} {disp : Disposition} {fs : List Feeder} {b : Byte} (h : r.Logs ex s) :
    r.Logs ex (fs.foldl (fun t f => t.tripRequest f lock disp v b) s) :=
  h.foldl fs fun _ _ ht => ht.tripRequest

theorem State.Logs.declareBusFault (h : r.Logs ex s) : r.Logs ex (s.declareBusFault v) := by
  unfold State.declareBusFault
  split
  · unfold State.busTrip
    exact h.ite h.blockRequest.tripRequests.append
  · unfold State.busAlarm
    exact h.ite (State.Logs.modRect_same h.append)
  · exact h

theorem State.Logs.busStep (h : r.Logs ex s) : r.Logs ex s.busStep := by
  unfold State.busStep
  have ht : r.Logs ex s.busDifferential.2 := h.busDifferential
  split
  · next t heq => rw [heq] at ht; exact ht.declareBusFault
  · next t heq => rw [heq] at ht; exact ht

theorem State.Logs.absorberEdge (h : r.Logs ex s) : r.Logs ex (s.absorberEdge before) := by
  unfold State.absorberEdge
  exact h.ite h.append

theorem State.Logs.absorberHeat (h : r.Logs ex s) : r.Logs ex s.absorberHeat := h.modRect_same

/-- The hot flag that is set is an onset of ABSORBER_HOT (03 R49). -/
theorem State.Logs.absorber (h : r.Logs ex s) : r.Logs ex s.absorber := by
  refine h.trans (State.Logs.cover (b := .absorberHot) ?_ fun p hp => ?_)
  · unfold State.absorber
    extract_lets u t
    have ht : s.Logs (.absorberHot :: ex) t :=
      ((State.Logs.refl _ s).absorberHeat.modRect_same rfl (fun _ => rfl) (.inl List.mem_cons_self)).absorberEdge
    exact ht.ite (ht.append.onset.ite ht.append)
  · revert hp
    unfold State.absorber
    extract_lets u t
    split
    · next heq => exact fun hp => .inl (heq.symm.trans hp)
    · split
      · exact fun _ => .inr (State.onset_shows _ p _)
      · next hcool => exact fun hp => absurd ((congrArg Rectifier.hot (State.append_only t _ _ _ _).rect).symm.trans hp) hcool

/-! ## The sample unit (01) -/

theorem State.Logs.modSample_of {u : SampleUnit → SampleUnit} (h : r.Logs ex s)
    (hu : .measBlind ∉ ex → (s.modSample u).present .measBlind = true → s.present .measBlind = true) :
    r.Logs ex (s.modSample u) := by
  refine h.trans ⟨⟨State.logsCore_of_eq rfl rfl rfl (fun _ => rfl) rfl fun b hb hp => ?_, id⟩, id, fun _ => rfl, rfl⟩
  cases b with
  | measBlind => exact hu hb hp
  | _ => exact hp

theorem State.Logs.modSample {u : SampleUnit → SampleUnit} (h : r.Logs ex s)
    (hs : (u s.sample).state = s.sample.state := by exact rfl) (hf : (u s.sample).failed = s.sample.failed := by exact rfl) :
    r.Logs ex (s.modSample u) :=
  h.modSample_of fun _ hp => by simpa only [State.present, State.anyFailed, State.modSample_sample, hs, hf] using hp

theorem State.present_measBlind_iff (s : State) :
    s.present .measBlind = true ↔ s.sample.state = .blind ∨ ∃ f : Feeder, s.sample.failed[f] = true := by
  have hmem (f : Feeder) : f ∈ feeders := by revert f; decide
  simp only [State.present, State.anyFailed, Bool.or_eq_true, decide_eq_true_eq, List.any_eq_true]
  exact or_congr_right ⟨fun ⟨f, _, hf⟩ => ⟨f, hf⟩, fun ⟨f, hf⟩ => ⟨f, hmem f, hf⟩⟩

theorem State.present_measBlind_of (s : State) (h : (!s.anyFailed && decide (s.sample.state = .live)) = false) :
    s.present .measBlind = true := by
  cases hs : s.sample.state with
  | live => simpa [hs, State.present] using h
  | blind => simp [hs, State.present]

/-- The first FAILED channel in LIVE is an onset of MEAS_BLIND (01 R4). -/
theorem State.Logs.channelFails (h : r.Logs ex s) : r.Logs ex (s.channelFails f) := by
  unfold State.channelFails
  extract_lets alone t u
  have ht : s.Logs (.measBlind :: ex) t := (State.Logs.refl _ s).modSample_of fun hn => absurd List.mem_cons_self hn
  have hu : s.Logs (.measBlind :: ex) u := ht.tripRequest.ite ht
  refine h.trans (hu.append.onsetIf.cover fun p _ => ?_)
  cases halone : alone with
  | true => exact .inr (State.onsetIf_shows _ p _ rfl)
  | false => exact .inl (s.present_measBlind_of halone)

theorem State.Logs.channelRestored (h : r.Logs ex s) : r.Logs ex (s.channelRestored f) := by
  unfold State.channelRestored
  refine State.Logs.append (h.modSample_of fun _ hp => ?_)
  rw [State.present_measBlind_iff] at hp ⊢
  refine hp.imp_right fun ⟨j, hj⟩ => ⟨j, ?_⟩
  simp only [State.modSample_sample, Fin.getElem_fin, Vector.getElem_set] at hj
  split at hj
  · cases hj
  · exact hj

theorem State.Logs.checkChannels (h : r.Logs ex s) : r.Logs ex s.checkChannels :=
  h.foldl feeders fun t f ht => by
    unfold State.checkChannel
    exact (ht.channelRestored.ite ht).ite (ht.channelFails.ite ht)

theorem State.Logs.enterLive (h : r.Logs ex s) (hs : s.sample.state = .blind) : r.Logs ex s.enterLive :=
  State.Logs.append (State.Logs.tryRestart (h.modSample_of fun _ _ => s.present_measBlind_iff.mpr (.inl hs)))

theorem State.Logs.resume (h : r.Logs ex s) (hs : s.sample.state = .blind) : r.Logs ex (s.resume a) := by
  unfold State.resume
  extract_lets t
  have ht : r.Logs ex t := h.modSample
  exact (ht.enterLive hs).ite ht

theorem State.Logs.deliver {x : SampleSet} (h : r.Logs ex s) : r.Logs ex (s.deliver x a) := by
  unfold State.deliver
  extract_lets row t
  have ht : r.Logs ex t := h.modSample
  exact ht.discriminate.fillSlots.offerTrips.addSums.busStep.absorber

theorem State.checkChannels_state (s : State) : s.checkChannels.sample.state = s.sample.state := by
  rw [s.checkChannels_only.sample, State.modSample_sample, SampleUnit.checks_eq]

theorem SampleUnit.takeSet_state (u : SampleUnit) (x : SampleSet) : (u.takeSet x).state = u.state := by
  simp only [SampleUnit.takeSet]

theorem SampleUnit.takeSet_failed (u : SampleUnit) (x : SampleSet) : (u.takeSet x).failed = u.failed := by
  simp only [SampleUnit.takeSet]

theorem State.Logs.takeSet {x : SampleSet} (h : r.Logs ex s) : r.Logs ex (s.takeSet x) := by
  unfold State.takeSet
  have ht : r.Logs ex (s.modSample fun u => u.takeSet x).checkChannels :=
    State.Logs.checkChannels (h.modSample (u := fun u => u.takeSet x) (s.sample.takeSet_state x) (s.sample.takeSet_failed x))
  have hstate : (s.modSample fun u => u.takeSet x).checkChannels.sample.state = s.sample.state := by
    rw [State.checkChannels_state, State.modSample_sample, SampleUnit.takeSet_state]
  generalize (s.modSample fun u => u.takeSet x).checkChannels = t at ht hstate
  extract_lets gap t' u
  split
  · exact ht.deliver
  · next hblind =>
    have hu : r.Logs ex u := ht.resume (by rw [hstate]; cases hs : s.sample.state <;> simp_all)
    exact hu.deliver.ite hu

/-- An entry to BLIND with no FAILED channel is an onset of MEAS_BLIND (01 R6). -/
theorem State.Logs.enterBlind (h : r.Logs ex s) : r.Logs ex s.enterBlind := by
  unfold State.enterBlind
  extract_lets t u
  have ht : s.Logs (.measBlind :: ex) t := (State.Logs.refl _ s).modSample_of fun hn => absurd List.mem_cons_self hn
  have hkept : s.Logs (.measBlind :: ex) t.sealAll := ht.sealAll
  have hu : s.Logs (.measBlind :: ex) u := by
    simp only [u]
    generalize t.sealAll = kept at hkept
    exact State.Logs.absorberEdge hkept.modRect_same
  refine h.trans (hu.append.onsetIf.cover fun p _ => ?_)
  cases hfailed : s.anyFailed with
  | false => exact .inr (State.onsetIf_shows _ p _ rfl)
  | true => exact .inl (by simp [State.present, hfailed])

theorem State.Logs.blindAction (h : r.Logs ex s) : r.Logs ex s.blindAction := by
  unfold State.blindAction
  exact h.tripRequests.blockRequest.ite h

/-! ## The loss of a link (08 R143) -/

theorem State.mem_sectionsOf {s : State} {l : Link} {f : Feeder} (h : f ∈ s.sectionsOf l) : s.sections[f].mapping ≠ none := by
  have := (List.mem_filter.mp h).2
  intro hn
  rw [hn] at this
  cases this

theorem State.Logs.loseSections (fs : List Feeder) (h : r.Logs ex s) (hfs : ∀ f ∈ fs, s.sections[f].mapping ≠ none) :
    r.Logs ex (fs.foldl State.loseSection s) := by
  refine h.trans (List.foldlRecOn (motive := fun t : State => s.Logs ex t) fs _ (.refl ex s) fun t ht f hf => ?_)
  exact ht.setCoordination (by rw [ht.mapping]; exact hfs f hf) (by simp)

theorem State.present_linkLatch (s : State) (l : Link) :
    s.present (linkLatch l) = ((s.links.get l).state != .up && s.mappedTo l) := by
  cases l <;> rfl

/-- A mapped link that leaves UP is an onset of its condition (08 R143). -/
theorem State.Logs.loseLink {l : Link} (h : r.Logs ex s) : r.Logs ex (s.loseLink l) := by
  unfold State.loseLink
  extract_lets was t u w x
  have ht : s.Logs (linkLatch l :: ex) t := (State.Logs.refl _ s).modLink_state fun _ hn => absurd List.mem_cons_self hn
  have hu : s.Logs (linkLatch l :: ex) u := ht.foldl _ fun _ _ ht => ht.loseIntertrip
  have hw : s.Logs (linkLatch l :: ex) w := hu.loseSections _ fun f hf => u.mem_sectionsOf hf
  have hx : s.Logs (linkLatch l :: ex) x := hw.modLink.linkEntry
  have hmapped {y : State} (hy : s.Logs (linkLatch l :: ex) y) : y.mappedTo l = s.mappedTo l := by
    simp only [State.mappedTo, hy.mapping]
  have hfinal : s.Logs (linkLatch l :: ex) (x.onsetIf (decide (was = .up) && x.mappedTo l) (linkLatch l)) := hx.onsetIf
  refine h.trans (hfinal.cover fun p hp => ?_)
  rw [State.present_linkLatch, hmapped hfinal, Bool.and_eq_true] at hp
  by_cases hup : was = .up
  · exact .inr (State.onsetIf_shows _ p _ (by rw [hmapped hx, hp.2, decide_eq_true hup]; rfl))
  · left
    rw [State.present_linkLatch, hp.2, Bool.and_true]
    exact bne_iff_ne.mpr hup

/-! ## Gate pulses and the gate test (03 R44, R50 to R52) -/

theorem State.Logs.modTest {u : GateTest → GateTest} (h : r.Logs ex s) : r.Logs ex (s.modTest u) := h.modRect_same

theorem State.modGate_eq (s : State) (k : Gate) (u : GateUnit → GateUnit) :
    s.modGate k u = s.modRect fun r => { r with gates := r.gates.set k (u r.gates[k]) } := rfl

/-- A gate is released. -/
theorem State.Logs.releaseGate {k : Gate} {u : GateUnit → GateUnit} (h : r.Logs ex s) (hu : ∀ x, (u x).driven = false) :
    r.Logs ex (s.modGate k u) := by
  rw [State.modGate_eq]
  refine h.modRect fun hg => ⟨hg.1, fun j hj => hg.2 j ?_⟩
  rw [← State.modGate_eq, State.modGate_get] at hj
  split at hj
  · cases (hu _).symm.trans hj
  · exact hj

/-- A gate keeps its output. -/
theorem State.Logs.markGate {k : Gate} {u : GateUnit → GateUnit} (h : r.Logs ex s) (hu : ∀ x, (u x).driven = x.driven) :
    r.Logs ex (s.modGate k u) := by
  rw [State.modGate_eq]
  refine h.modRect_same rfl (fun j => ?_) (.inr rfl)
  show (s.modGate k u).rect.gates[j].driven = _
  rw [State.modGate_get]
  split
  · next hkj => subst hkj; exact hu _
  · rfl

/-- A gate is driven in a gate test, or while gates may fire. -/
theorem State.Logs.driveGate {k : Gate} {u : GateUnit → GateUnit} (h : r.Logs ex s)
    (hs : s.mayFire = true ∨ s.rect.state = .gateTest) : r.Logs ex (s.modGate k u) := by
  rw [State.modGate_eq]
  exact h.modRect fun hg => ⟨hg.1, fun _ _ => hs⟩

theorem State.Logs.beginGateStep (h : r.Logs ex s) (hs : s.rect.state = .gateTest) : r.Logs ex s.beginGateStep := by
  unfold State.beginGateStep
  exact State.Logs.driveGate h.modTest (.inr hs)

theorem State.Logs.finishGateTest (h : r.Logs ex s) : r.Logs ex s.finishGateTest := by
  unfold State.finishGateTest
  exact State.Logs.enterStopped (State.Logs.append h.modTest)

/-- A gate test begins with the AC breaker open and EOFF released. -/
theorem State.Logs.beginGateTest {repeats skip : Nat} (h : r.Logs ex s)
    (hac : s.inputs.acClosed = false) (heoff : s.inputs.eoff = false) : r.Logs ex (s.beginGateTest repeats skip) := by
  unfold State.beginGateTest
  refine State.Logs.beginGateStep (State.Logs.rectEntry (h.modRect fun _ => ⟨fun _ => ⟨hac, heoff⟩, fun _ _ => .inr rfl⟩)) ?_
  rw [(State.rectEntry_only _ _ _).rect]
  rfl

end

/-! ## The rectifier commands (03) -/

theorem State.startRectifier_logs : JudgeLogs State.startRectifier := by
  intro ex s
  have h := State.Logs.refl ex s
  unfold State.startRectifier
  split_ifs with h1 h2 h3 h4 heoff hac htr <;> first | exact h | skip
  exact h.startUp (by simpa using hac) (by simpa using heoff) (by simpa using htr)

theorem State.stopRectifier_logs : JudgeLogs State.stopRectifier := by
  intro ex s
  have h := State.Logs.refl ex s
  unfold State.stopRectifier
  split
  · exact h
  · next hs => exact h.shiftTo (by rw [hs]; rfl)
  · next hs => exact h.shiftTo (by rw [hs]; rfl)
  · split
    · split
      · exact h
      · dsimp only [State.accept]
        exact h.replaceEnd
    · exact h
  · split
    · exact h.enterStopped
    · exact h
  · exact h.abortGateTest.enterStopped

theorem State.resetRectifier_logs : JudgeLogs State.resetRectifier := by
  intro ex s
  have h := State.Logs.refl ex s
  unfold State.resetRectifier
  split
  · exact h
  split
  · exact h
  · exact State.Logs.enterStopped h.modRect_same

theorem State.gateTest_logs (repeats skip : Nat) : JudgeLogs fun s => s.gateTest repeats skip := by
  intro ex s
  have h := State.Logs.refl ex s
  dsimp only [State.gateTest]
  split_ifs with h1 h2 hac heoff <;> first | exact h | skip
  exact h.beginGateTest (by simpa using hac) (by simpa using heoff)

theorem State.releaseHold_logs (p : Port) : JudgeLogs fun s => s.releaseHold p := by
  intro ex s
  have h := State.Logs.refl ex s
  dsimp only [State.releaseHold]
  split
  · refine State.Logs.tryRestart (State.Logs.append (h.trans ⟨⟨State.logsCore_of_eq rfl rfl rfl (fun _ => rfl) rfl fun b _ hp => ?_,
      id⟩, id, fun _ => rfl, rfl⟩))
    cases b with
    | startHold => cases hp
    | _ => exact hp
  · exact h

end Sys2Proof.Machine
end


section
/-! PROOFS. The tracker's notices, the input lines and the coordination map: what the commands that break a part of the
relation for a moment leave when they are complete; then every command but the resets, WRITE_SETTING and
READ_CONDITIONS stays in it. -/

-- One text with the model: proofs elaborated side by side would need more threads than the check's memory holds.
set_option Elab.async false

namespace Sys2Proof.Machine

/-! ## Gates while the tracker or an input has moved and the rectifier controller has not acted yet -/

/-- The gates rule but for the tracker state. -/
def State.GatesFire (s : State) : Prop :=
  (s.rect.state = .gateTest → s.inputs.acClosed = false ∧ s.inputs.eoff = false)
    ∧ ∀ k : Gate, s.rect.gates[k].driven = true →
      (s.rect.state.firing = true ∧ s.inputs.eoff = false ∧ s.inputs.acClosed = true) ∨ s.rect.state = .gateTest

theorem State.GatesAllowed.fire {s : State} (h : s.GatesAllowed) : s.GatesFire :=
  ⟨h.1, fun k hk => (h.2 k hk).imp_left fun hfire => by rw [State.mayFire_iff] at hfire; exact ⟨hfire.1, hfire.2.2⟩⟩

theorem State.GatesFire.allowed {s : State} (h : s.GatesFire)
    (ht : s.rect.state.firing = true → s.tracker.state = .locked ∨ s.tracker.state = .holdover) : s.GatesAllowed :=
  ⟨h.1, fun k hk => (h.2 k hk).imp_left fun ⟨hf, hin⟩ => s.mayFire_iff.mpr ⟨hf, ht hf, hin⟩⟩

theorem State.GatesFire.of_eq {s t : State} (h : s.GatesFire) (hr : t.rect = s.rect) (hi : t.inputs = s.inputs) : t.GatesFire := by
  unfold State.GatesFire
  rw [hr, hi]
  exact h

/-- Outside the firing states the tracker has no part in the gates rule. -/
theorem State.GatesFire.allowed_of_not_firing {s : State} (h : s.GatesFire) (hf : s.rect.state.firing = false) : s.GatesAllowed :=
  h.allowed fun ht => by rw [hf] at ht; cases ht

/-- What ACQUIRE and UNSYNC do to the gates: a firing state releases them, and no pulse counts as begun. -/
def Rectifier.endPeriod (r : Rectifier) : Rectifier := (if r.state.firing then r.quiet else r).unfire

theorem Rectifier.endPeriod_state (r : Rectifier) : r.endPeriod.state = r.state := by
  unfold Rectifier.endPeriod
  split <;> rfl

theorem Rectifier.endPeriod_driven (r : Rectifier) (k : Gate) :
    r.endPeriod.gates[k].driven = (!r.state.firing && r.gates[k].driven) := by
  unfold Rectifier.endPeriod
  rw [Rectifier.unfire_driven]
  cases r.state.firing with
  | true => exact r.quiet_released k
  | false => rfl

theorem Rectifier.endPeriod_hot (r : Rectifier) : r.endPeriod.hot = r.hot := by
  unfold Rectifier.endPeriod
  split <;> rfl

/-- The gates rule holds once the period has ended, whatever the tracker state. -/
theorem State.GatesFire.endPeriod {s : State} (h : s.GatesFire) : (s.modRect Rectifier.endPeriod).GatesAllowed := by
  refine ⟨fun ht => h.1 (by rwa [State.modRect_rect, Rectifier.endPeriod_state] at ht), fun k hk => ?_⟩
  rw [State.modRect_rect, Rectifier.endPeriod_driven, Bool.and_eq_true, Bool.not_eq_true'] at hk
  rw [State.modRect_rect, Rectifier.endPeriod_state]
  exact .inr ((h.2 k hk.2).resolve_left fun hf => by rw [hk.1] at hf; cases hf.1)

theorem State.noticeState_acquire (s : State) : s.noticeState .acquire =
    (if s.rect.state = .starting ∨ s.rect.state = .running then s.beginShift (.blocked .syncLost) none else s).modRect
      Rectifier.endPeriod := rfl

theorem State.noticeState_unsync (s : State) : s.noticeState .unsync =
    if s.rect.state = .starting ∨ s.rect.state = .running then (s.modRect Rectifier.endPeriod).enterBlocked .syncLost none
    else if s.rect.state = .shifting then (s.modRect Rectifier.endPeriod).finishShift (s.rect.shiftEnd.getD .stopped) none
    else s.modRect Rectifier.endPeriod := rfl

theorem State.beginShift_rect (s : State) (e : ShiftEnd) (b : Option Gate) :
    (s.beginShift e b).rect.state = .shifting ∧ (s.beginShift e b).rect.gates = s.rect.gates := by
  unfold State.beginShift
  rw [(State.rectEntry_only _ _ _).rect]
  exact ⟨rfl, rfl⟩

theorem State.GatesFire.beginShift {s : State} {e : ShiftEnd} {b : Option Gate} (h : s.GatesFire) (hf : s.rect.state.firing = true) :
    (s.beginShift e b).GatesFire := by
  obtain ⟨hstate, hgates⟩ := s.beginShift_rect e b
  have hin := (s.beginShift_only e b).inputs
  refine ⟨fun ht => (nomatch hstate.symm.trans ht), fun k hk => .inl ?_⟩
  rw [hgates] at hk
  rw [hstate, hin]
  refine ⟨rfl, ((h.2 k hk).resolve_right fun ht => ?_).2⟩
  rw [ht] at hf
  cases hf

section
variable {ex : List Latch} {r s : State} {n : Nat} {v : Int} {x : Option Instant} {was : TrackerState} {c : SyncChange}
variable {g : Tracker → Tracker} {st : TrackerState} {m : Notice}

theorem State.firing_of_starting_or_running (h : s.rect.state = .starting ∨ s.rect.state = .running) : s.rect.state.firing = true := by
  rcases h with h | h <;> rw [h] <;> rfl

theorem State.Logs.endPeriod (h : r.Logs ex s) : r.Logs ex (s.modRect Rectifier.endPeriod) :=
  h.modRect (fun hg => hg.fire.endPeriod) (.inr s.rect.endPeriod_hot)

theorem State.Logs.noticeState (h : r.Logs ex s) : r.Logs ex (s.noticeState st) := by
  cases st with
  | acquire =>
    rw [State.noticeState_acquire]
    refine State.Logs.endPeriod ?_
    split
    · next hs => exact h.beginShift (State.firing_of_starting_or_running hs)
    · exact h
  | unsync =>
    rw [State.noticeState_unsync]
    exact h.endPeriod.enterBlocked.ite (h.endPeriod.finishShift.ite h.endPeriod)
  | locked => exact h.tryRestart
  | holdover => exact h

theorem State.Logs.notice (h : r.Logs ex s) : r.Logs ex (s.notice m) := by
  unfold State.notice
  dsimp only
  split
  · exact h.noticeState.takeInstant
  · exact h.noticeState

/-- A notice of the present tracker state restores the gates rule. -/
theorem State.notice_gates (h : s.GatesFire) (hm : m.state = s.tracker.state) : (s.notice m).GatesAllowed := by
  have hs : (s.noticeState m.state).GatesAllowed := by
    cases hst : m.state with
    | acquire =>
      rw [State.noticeState_acquire]
      refine State.GatesFire.endPeriod ?_
      split
      · next hs => exact h.beginShift (State.firing_of_starting_or_running hs)
      · exact h
    | unsync =>
      rw [State.noticeState_unsync]
      split
      · exact (State.Logs.refl [] _).enterBlocked.gates h.endPeriod
      split
      · exact (State.Logs.refl [] _).finishShift.gates h.endPeriod
      · exact h.endPeriod
    | locked => exact (State.Logs.refl [] s).tryRestart.gates (h.allowed fun _ => .inl (hm.symm.trans hst))
    | holdover => exact h.allowed fun _ => .inr (hm.symm.trans hst)
  unfold State.notice
  dsimp only
  split
  · exact (State.Logs.refl [] _).takeInstant.gates hs
  · exact hs

/-! ## The tracker (02) -/

/-- The tracker state stays. -/
theorem State.Logs.modTracker (h : r.Logs ex s) (hg : (g s.tracker).state = s.tracker.state := by exact rfl) :
    r.Logs ex (s.modTracker g) :=
  h.trans (State.SameSources.logs_of_eq (by constructor <;> simp [hg]) rfl rfl rfl fun _ => rfl)

theorem State.Logs.handOn (h : r.Logs ex s) : r.Logs ex (s.handOn x) := h.notice

/-- A change of the tracker state, complete with its entry, the onset on leaving LOCKED, and its notice (02 R26, R27). -/
theorem State.Logs.reportSync (h : r.Logs ex s) (hwas : s.tracker.state = was) :
    r.Logs ex ((s.modTracker g).reportSync was c v x) := by
  unfold State.reportSync
  generalize hu : ((s.modTracker g).append .syncState .none (.sync c) v).onsetIf (decide (was = .locked)) .syncNotLocked = u
  have honly : (s.modTracker g).JournalOnly u := hu ▸ (State.append_only _ _ _ _ _).trans (State.onsetIf_only _ _ _)
  have hlogs : (s.modTracker g).Logs (.syncNotLocked :: ex) u := hu ▸ (State.Logs.refl _ _).append.onsetIf
  have hmod : s.LogsCore (.syncNotLocked :: ex) (s.modTracker g) :=
    State.logsCore_of_eq rfl rfl rfl (fun _ => rfl) rfl fun b hb hp => by
      cases b with
      | syncNotLocked => exact absurd List.mem_cons_self hb
      | _ => exact hp
  have hnotice : u.Logs (.syncNotLocked :: ex) (u.handOn x) := (State.Logs.refl _ u).handOn
  refine h.trans ⟨⟨LogsCore.cover (b := .syncNotLocked) ((hmod.trans hlogs.toLogsCore).trans hnotice.toLogsCore) fun p _ => ?_,
    fun hg => ?_⟩, fun hs => ?_, fun f => ?_, ?_⟩
  · by_cases hl : was = .locked
    · refine .inr (hnotice.shown p _ ?_)
      rw [← hu]
      exact State.onsetIf_shows _ p _ (decide_eq_true hl)
    · left
      simpa [State.present, hwas] using hl
  · exact State.notice_gates (hg.fire.of_eq honly.rect honly.inputs) rfl
  · exact hnotice.singles (hlogs.singles hs)
  · exact (hnotice.mapping f).trans (hlogs.mapping f)
  · exact hnotice.settings.trans hlogs.settings

theorem State.Logs.toUnsync (h : r.Logs ex s) : r.Logs ex (s.toUnsync c) := h.reportSync rfl

theorem State.Logs.crossAcquire {t : Stamp} (h : r.Logs ex s) (hs : s.tracker.state = .acquire) : r.Logs ex (s.crossAcquire t n) := by
  unfold State.crossAcquire
  extract_lets d e p
  split
  · exact h.modTracker
  split
  · exact h.modTracker
  split
  · split
    · exact h.reportSync hs
    · exact h.modTracker
  · exact h.modTracker

theorem State.Logs.acceptCrossing {t : Stamp} (h : r.Logs ex s) : r.Logs ex (s.acceptCrossing t n) := by
  unfold State.acceptCrossing
  extract_lets u
  have hu : r.Logs ex u := h.modTracker
  split
  · next hs => exact hu.reportSync hs
  · next hs => exact hu.crossAcquire hs
  · next hs =>
    unfold State.crossLocked
    extract_lets e p
    split
    · exact State.Logs.handOn hu.modTracker
    · exact hu.reportSync hs
  · next hs =>
    unfold State.crossHoldover
    extract_lets e p
    split
    · exact hu.reportSync hs
    · exact hu.reportSync hs

theorem State.Logs.onDeadline {act : State → State} (h : r.Logs ex s) (hact : s.tracker.state = st → r.Logs ex (act s)) :
    r.Logs ex (s.onDeadline st act) := by
  unfold State.onDeadline
  split
  · next hs => exact hact hs.2
  · exact h

theorem State.Logs.lockedExpires (h : r.Logs ex s) (hs : s.tracker.state = .locked) : r.Logs ex s.lockedExpires := by
  unfold State.lockedExpires
  split
  · exact h.reportSync hs
  · exact h.toUnsync

theorem State.Logs.holdoverExpires (h : r.Logs ex s) (hs : s.tracker.state = .holdover) : r.Logs ex s.holdoverExpires := by
  unfold State.holdoverExpires
  split
  · exact State.Logs.handOn (h.modTracker (hg := hs.symm))
  · exact h.toUnsync

end

/-! ## The AC breaker and emergency-off (03 R37, R38) -/

/-- Every driven gate belongs to a firing state or a gate test. -/
def State.GatesHeld (s : State) : Prop :=
  ∀ k : Gate, s.rect.gates[k].driven = true → s.rect.state.firing = true ∨ s.rect.state = .gateTest

theorem State.GatesAllowed.held {s : State} (h : s.GatesAllowed) : s.GatesHeld :=
  fun k hk => (h.fire.2 k hk).imp_left And.left

theorem State.GatesHeld.released {s : State} (h : s.GatesHeld) (hf : s.rect.state.firing = false) (ht : s.rect.state ≠ .gateTest) :
    s.rect.Released := by
  intro k
  by_contra hk
  rcases h k (by simpa using hk) with hfire | htest
  · rw [hf] at hfire; cases hfire
  · exact ht htest

theorem State.enterStopped_gates (s : State) (n : RectNote) : (s.enterStopped n).GatesAllowed := by
  have hr := (State.rectEntry_only (s.modRect fun r => { r.quiet with state := .stopped, cause := none, restart := none }) n none).rect
  unfold State.enterStopped
  refine State.gatesAllowed_of_released ?_ ?_
  · rw [hr]; exact s.rect.quiet_released
  · rw [hr]; exact fun h => nomatch h

theorem State.enterBlocked_gates (s : State) (c : RectCause) (b : Option Gate) : (s.enterBlocked c b).GatesAllowed := by
  unfold State.enterBlocked
  refine (State.Logs.refl [] _).tryRestart.gates (State.gatesAllowed_of_released ?_ ?_)
  · rw [(State.rectEntry_only _ _ _).rect]; exact s.rect.quiet_released
  · rw [(State.rectEntry_only _ _ _).rect]; exact fun h => nomatch h

theorem State.acOpenRect_gates {s : State} (h : s.GatesHeld)
    (ht : s.rect.state = .gateTest → s.inputs.acClosed = false ∧ s.inputs.eoff = false) : s.acOpenRect.GatesAllowed := by
  unfold State.acOpenRect
  split
  · exact s.enterStopped_gates _
  · exact s.enterStopped_gates _
  · split
    · split
      · exact s.enterBlocked_gates _ _
      · exact s.enterStopped_gates _
    · exact s.enterStopped_gates _
  · next hs =>
    split
    · exact s.enterStopped_gates _
    · exact State.gatesAllowed_of_released (h.released (by rw [hs]; rfl) (by rw [hs]; simp)) (by rw [hs]; simp)
  · next hs => exact State.gatesAllowed_of_released (h.released (by rw [hs]; rfl) (by rw [hs]; simp)) (by rw [hs]; simp)
  · next hs => exact ⟨ht, fun _ _ => .inr hs⟩

theorem State.eoffRect_gates {s : State} (h : s.GatesHeld) : s.eoffRect.GatesAllowed := by
  unfold State.eoffRect
  split
  · exact s.enterBlocked_gates _ _
  · exact s.enterBlocked_gates _ _
  · exact s.enterBlocked_gates _ _
  · next hs =>
    have hs' : s.GatesAllowed :=
      State.gatesAllowed_of_released (h.released (by rw [hs]; rfl) (by rw [hs]; simp)) (by rw [hs]; simp)
    exact (State.Logs.ite (State.Logs.refl [] s).replaceCause (.refl [] s)).gates hs'
  · exact State.enterStopped_gates _ _
  · next hs => exact State.gatesAllowed_of_released (h.released (by rw [hs]; rfl) (by rw [hs]; simp)) (by rw [hs]; simp)

/-- The state with other levels of the AC breaker and EOFF inputs. -/
def State.withInputs (s : State) (i : Inputs) : State := { s with inputs := i }

theorem State.withInputs_core (s : State) (i : Inputs) {ex : List Latch} (h : .eoffActive ∈ ex ∨ (i.eoff = true → s.inputs.eoff = true)) :
    s.LogsCore ex (s.withInputs i) := by
  refine State.logsCore_of_eq rfl rfl rfl (fun _ => rfl) rfl fun b hb hp => ?_
  cases b with
  | eoffActive => exact h.resolve_left hb hp
  | _ => exact hp

/-- An operation after a change of the inputs stays in the relation where it restores the gates rule. -/
theorem State.Logs.after_inputs {ex : List Latch} {s t : State} {i : Inputs} (ht : (s.withInputs i).Logs ex t)
    (hi : .eoffActive ∈ ex ∨ (i.eoff = true → s.inputs.eoff = true)) (hg : s.GatesAllowed → t.GatesAllowed) : s.Logs ex t :=
  ⟨⟨(s.withInputs_core i hi).trans ht.toLogsCore, hg⟩, ht.singles, ht.mapping, ht.settings⟩

/-- The answer is a next state in the relation. -/
def Answer.Logs (s : State) (a : Answer) : Prop := ∃ t, a = .next t ∧ s.Logs [] t

theorem State.Logs.answer {s t : State} (h : s.Logs [] t) : Answer.Logs s (.next t) := ⟨t, rfl, h⟩

theorem Answer.Logs.ite {s : State} {c : Prop} [Decidable c] {a b : Answer} (ha : Answer.Logs s a) (hb : Answer.Logs s b) :
    Answer.Logs s (if c then a else b) := by
  split
  · exact ha
  · exact hb

theorem Answer.logs_refl (s : State) : Answer.Logs s (.next s) := (State.Logs.refl [] s).answer

theorem execAcBreakerOpen_logs (s : State) : Answer.Logs s (execAcBreakerOpen s) := by
  unfold execAcBreakerOpen
  split
  · refine (State.Logs.after_inputs (State.Logs.refl [] (s.withInputs { s.inputs with acClosed := false })).acOpenRect
      (.inr id) fun hg => ?_).answer
    exact State.acOpenRect_gates hg.held fun ht => ⟨rfl, (hg.1 ht).2⟩
  · exact Answer.logs_refl s

theorem execAcBreakerClosed_logs (s : State) : Answer.Logs s (execAcBreakerClosed s) := by
  unfold execAcBreakerClosed
  split
  · exact Answer.logs_refl s
  next hac =>
    have h := State.Logs.refl [] (s.withInputs { s.inputs with acClosed := true })
    refine (State.Logs.after_inputs (i := { s.inputs with acClosed := true }) (h.abortGateTest.enterStopped.ite h)
      (.inr id) fun hg => ?_).answer
    split
    · exact State.enterStopped_gates _ _
    · next ht =>
      refine State.gatesAllowed_of_released (fun k => ?_) ht
      by_contra hk
      rcases hg.2 k (Bool.eq_true_of_not_eq_false hk) with hfire | htest
      · rw [State.mayFire_iff] at hfire
        exact hac hfire.2.2.2
      · exact ht htest

theorem execEoffReleased_logs (s : State) : Answer.Logs s (execEoffReleased s) := by
  unfold execEoffReleased
  split
  next heoff =>
    refine (State.Logs.after_inputs (State.Logs.refl [] (s.withInputs { s.inputs with eoff := false })).absorberEdge
      (.inr fun h => nomatch h) fun hg => ?_).answer
    have hreleased : s.rect.Released := fun k => by
      by_contra hk
      rcases hg.2 k (Bool.eq_true_of_not_eq_false hk) with hfire | htest
      · rw [State.mayFire_iff, heoff] at hfire
        cases hfire.2.2.1
      · cases heoff.symm.trans (hg.1 htest).2
    refine (State.Logs.refl [] _).absorberEdge.gates (State.gatesAllowed_of_released hreleased fun ht => ?_)
    cases heoff.symm.trans (hg.1 ht).2
  · exact Answer.logs_refl s

theorem State.Logs.eoffRect {ex : List Latch} {r s : State} (h : r.Logs ex s) : r.Logs ex s.eoffRect := by
  unfold State.eoffRect
  split
  · exact h.enterBlocked
  · exact h.enterBlocked
  · exact h.enterBlocked
  · exact h.replaceCause.ite h
  · exact h.abortGateTest.enterStopped
  · exact h

theorem execEoffAsserted_logs (s : State) : Answer.Logs s (execEoffAsserted s) := by
  unfold execEoffAsserted
  split
  · exact Answer.logs_refl s
  have ht (t : State) : t.Logs [.eoffActive] (t.eoffRect.absorberEdge s) := (State.Logs.refl _ t).eoffRect.absorberEdge
  have hrest (u : State) : u.Logs [.eoffActive] ((feeders.foldl State.eoffFeeder u).onset .eoffActive) :=
    ((State.Logs.refl _ u).foldl feeders fun _ _ h => h.eoffFeeder).onset
  have hgates (t : State) (h : t.GatesHeld) : ((feeders.foldl State.eoffFeeder (t.eoffRect.absorberEdge s)).onset .eoffActive).GatesAllowed :=
    ((State.Logs.refl [.eoffActive] t.eoffRect).absorberEdge.trans (hrest _)).gates (State.eoffRect_gates h)
  have hall := State.Logs.after_inputs (s := s) (i := { s.inputs with eoff := true }) ((ht _).trans (hrest _)) (.inl List.mem_cons_self)
    fun hg => hgates _ hg.held
  exact (hall.cover fun p _ => .inr (State.onset_shows _ p _)).settle.answer

/-! ## Time (log 1) -/

theorem State.tick_logs (s : State) : s.Logs [] s.tick := by
  refine State.SameSources.logs_of_eq ?_ rfl rfl rfl fun _ => rfl
  constructor
  case links => intro l; cases l <;> rfl
  all_goals first | exact rfl | exact fun _ => rfl

/-- On an empty queue the relation holds but for the queue, which can take a due command. -/
theorem State.idle_logs (s : State) : ∃ t, s.Logs [] t ∧ ∃ q, s.idle = { t with pending := q } := by
  unfold State.idle
  split
  · exact ⟨_, (State.Logs.refl [] s).modTrips.takeTrip.settle, _, rfl⟩
  split
  · exact ⟨s, .refl [] s, _, rfl⟩
  · exact ⟨_, s.tick_logs, _, rfl⟩

/-! ## Every command (00, How the part is reached) -/

/-- The commands that leave the relation: the resets, and those that write a setting or a latch word. -/
def leavesRelation : Instr → Bool
  | .powerOnReset _ | .warmReset _ | .readConditions _ | .writeSetting _ _ _ => true
  | _ => false

theorem serve_logs (s : State) (p : Port) (c : Instr) {judge : State → Reply} (h : JudgeLogs judge) :
    Answer.Logs s (.next (s.serve p c judge)) := ((State.Logs.refl [] s).serve h).answer

theorem serve_settle_logs (s : State) (p : Port) (c : Instr) {judge : State → Reply} (h : JudgeLogs judge) :
    Answer.Logs s (.next (s.serve p c judge).settle) := ((State.Logs.refl [] s).serve h).settle.answer

section
variable (s : State)

theorem execSampleSetArrival_logs (bytes : List Byte) : Answer.Logs s (execSampleSetArrival bytes s) := by
  unfold execSampleSetArrival
  split
  · exact (State.Logs.refl [] s).modSample.answer
  · exact (State.Logs.refl [] s).takeSet.settle.answer

theorem execSampleWatchdogExpiry_logs : Answer.Logs s (execSampleWatchdogExpiry s) := by
  unfold execSampleWatchdogExpiry
  split
  · exact Answer.logs_refl s
  extract_lets t
  have ht : s.Logs [] t := (State.Logs.refl [] s).modSample
  exact ht.enterBlind.answer.ite ht.modSample.answer

theorem execBlindTimerExpiry_logs : Answer.Logs s (execBlindTimerExpiry s) := by
  unfold execBlindTimerExpiry
  split
  · exact Answer.logs_refl s
  extract_lets t
  have ht : s.Logs [] t := (State.Logs.refl [] s).modSample
  exact ht.blindAction.append.settle.answer.ite ht.answer

theorem execCrossing_logs (width : Nat) : Answer.Logs s (execCrossing width s) := by
  unfold execCrossing
  exact (State.Logs.refl [] s).modTracker.answer.ite (State.Logs.refl [] s).acceptCrossing.answer

theorem execGatePulseStart_logs (g : Gate) : Answer.Logs s (execGatePulseStart g s) := by
  unfold execGatePulseStart
  split
  · exact Answer.logs_refl s
  extract_lets t
  have ht : s.Logs [] t := (State.Logs.refl [] s).modRect_same
  refine State.Logs.answer (State.Logs.ite (.refl [] s) ?_)
  split
  · next hfire => exact ht.driveGate (.inl hfire)
  · exact ht

theorem execGatePulseEnd_logs (g : Gate) : Answer.Logs s (execGatePulseEnd g s) := by
  unfold execGatePulseEnd
  exact (Answer.logs_refl s).ite ((State.Logs.refl [] s).releaseGate fun _ => rfl).answer

theorem execGateFeedback_logs (g : Gate) : Answer.Logs s (execGateFeedback g s) := by
  unfold execGateFeedback
  exact (State.Logs.refl [] s).modTest.answer.ite
    (((State.Logs.refl [] s).markGate (u := fun x => { x with seen := true }) fun _ => rfl).answer.ite (Answer.logs_refl s))

theorem execRestartWindowExpiry_logs : Answer.Logs s (execRestartWindowExpiry s) := by
  unfold execRestartWindowExpiry
  exact (Answer.logs_refl s).ite (State.Logs.refl [] s).modRect_same.answer

theorem execGateTestStepEnd_logs : Answer.Logs s (execGateTestStepEnd s) := by
  unfold execGateTestStepEnd
  split
  · exact Answer.logs_refl s
  split
  · exact (State.Logs.refl [] s).modTest.answer
  next hs =>
    extract_lets k t
    have ht : s.Logs [] t := State.Logs.modTest ((State.Logs.refl [] s).releaseGate fun _ => rfl)
    have hstate : t.rect.state = .gateTest := not_not.mp hs
    exact ((ht.beginGateStep hstate).ite ht.finishGateTest).answer

theorem execGateTestDriveEnd_logs : Answer.Logs s (execGateTestDriveEnd s) := by
  unfold execGateTestDriveEnd
  split
  · exact Answer.logs_refl s
  extract_lets t
  have ht : s.Logs [] t := (State.Logs.refl [] s).modTest
  exact ((ht.releaseGate fun _ => rfl).ite ht).answer

theorem execBreakerPositionOpen_logs (f : Feeder) : Answer.Logs s (execBreakerPositionOpen f s) := by
  unfold execBreakerPositionOpen
  exact (State.Logs.refl [] s).showBreaker.contextOpens.activateBlocks.settle.answer.ite (Answer.logs_refl s)

theorem execBreakerPositionClosed_logs (f : Feeder) : Answer.Logs s (execBreakerPositionClosed f s) := by
  unfold execBreakerPositionClosed
  exact (Answer.logs_refl s).ite (State.Logs.refl [] s).showBreaker.loadBlank.contextCloses.settle.answer

theorem execDeadTimeExpiry_logs (f : Feeder) : Answer.Logs s (execDeadTimeExpiry f s) := by
  unfold execDeadTimeExpiry
  exact (Answer.logs_refl s).ite ((State.Logs.refl [] s).modCtx.deadTimeEnd.settle.answer.ite (State.Logs.refl [] s).modCtx.answer)

theorem execCloseSupervisionExpiry_logs (f : Feeder) : Answer.Logs s (execCloseSupervisionExpiry f s) := by
  unfold execCloseSupervisionExpiry
  exact (Answer.logs_refl s).ite ((State.Logs.refl [] s).modCtx.closeFails.settle.answer.ite (State.Logs.refl [] s).modCtx.answer)

theorem execReclaimExpiry_logs (f : Feeder) : Answer.Logs s (execReclaimExpiry f s) := by
  unfold execReclaimExpiry
  exact (Answer.logs_refl s).ite (State.Logs.refl [] s).modCtx.answer

theorem execFollowWaitExpiry_logs (f : Feeder) : Answer.Logs s (execFollowWaitExpiry f s) := by
  unfold execFollowWaitExpiry
  exact (Answer.logs_refl s).ite ((State.Logs.refl [] s).modCtx.enterLocked.answer.ite (State.Logs.refl [] s).modCtx.answer)

theorem State.Logs.escalate {ex : List Latch} {r s : State} {f : Feeder} (h : r.Logs ex s) : r.Logs ex (s.escalate f) := by
  unfold State.escalate
  extract_lets t u w
  have ht : r.Logs ex t := h.modCtx.blockRequest
  have hu : r.Logs ex u := ht.foldl _ fun _ _ ht => ht.backupTrip
  have hw : r.Logs ex w := hu.sendTripReq.ite hu
  exact hw.append

theorem execTripSupervisionExpiry_logs (f : Feeder) : Answer.Logs s (execTripSupervisionExpiry f s) := by
  unfold execTripSupervisionExpiry
  exact (Answer.logs_refl s).ite ((State.Logs.refl [] s).modCtx.escalate.answer.ite (State.Logs.refl [] s).modCtx.answer)

theorem execLineTestExpiry_logs : Answer.Logs s (execLineTestExpiry s) := by
  unfold execLineTestExpiry
  split
  · exact Answer.logs_refl s
  split
  · exact (State.Logs.refl [] s).endTest.settle.answer
  · exact (State.Logs.refl [] s).modLine.answer

theorem execEarthSwitchClosed_logs (f : Feeder) : Answer.Logs s (execEarthSwitchClosed f s) := by
  unfold execEarthSwitchClosed
  exact (Answer.logs_refl s).ite (State.Logs.refl [] s).showEarth.barFeeder.append.announce.settle.answer

theorem execEarthSwitchOpened_logs (f : Feeder) : Answer.Logs s (execEarthSwitchOpened f s) := by
  unfold execEarthSwitchOpened
  exact (State.Logs.refl [] s).showEarth.append.announce.answer.ite (Answer.logs_refl s)

theorem execSelectorChange_logs (pos : Selector) : Answer.Logs s (execSelectorChange pos s) := by
  unfold execSelectorChange
  refine (Answer.logs_refl s).ite (State.Logs.append (State.Logs.after_inputs
    (i := { s.inputs with selector := pos }) (.refl [] _) (.inr id) id)).answer

theorem receive_logs (l : Link) (x : PeerFrame) : Answer.Logs s (.next (s.receive l x)) := (State.Logs.refl [] s).receive.answer

theorem execBadFrame_logs (l : Link) (rx : Reception) : Answer.Logs s (execBadFrame l rx s) := by
  unfold execBadFrame
  split
  · exact (State.Logs.refl [] s).countBad.answer
  · exact receive_logs s l _

theorem execFrameTransmit_logs (l : Link) : Answer.Logs s (execFrameTransmit l s) := by
  unfold execFrameTransmit
  exact (Answer.logs_refl s).ite (State.Logs.refl [] s).transmitFrom.answer

theorem execHeartbeatExpiry_logs (l : Link) : Answer.Logs s (execHeartbeatExpiry l s) := by
  unfold execHeartbeatExpiry
  exact (Answer.logs_refl s).ite (State.Logs.ask (State.Logs.refl [] s).modLink).answer

theorem execLossTimerExpiry_logs (l : Link) : Answer.Logs s (execLossTimerExpiry l s) := by
  unfold execLossTimerExpiry
  exact (Answer.logs_refl s).ite ((State.Logs.refl [] s).modLink.answer.ite (State.Logs.refl [] s).loseLink.settle.answer)

theorem execRefreshExpiry_logs (l : Link) : Answer.Logs s (execRefreshExpiry l s) := by
  unfold execRefreshExpiry
  exact (Answer.logs_refl s).ite (State.Logs.foldl (State.Logs.refl [] s).modLink _ fun _ _ ht => ht.askFor).answer

theorem execRetryExpiry_logs (l : Link) (i : Index) : Answer.Logs s (execRetryExpiry l i s) := by
  unfold execRetryExpiry
  split
  · exact Answer.logs_refl s
  · exact ((State.Logs.refl [] s).retryIntertrip.settle.ite (.refl [] s)).answer

theorem execResetSilenceEnd_logs (l : Link) : Answer.Logs s (execResetSilenceEnd l s) := by
  unfold execResetSilenceEnd
  exact (Answer.logs_refl s).ite (State.Logs.ask (State.Logs.refl [] s).modLink).answer

theorem execSelectLow_logs (p : Port) (bytes : List Byte) : Answer.Logs s (execSelectLow p bytes s) := by
  unfold execSelectLow
  exact (Answer.logs_refl s).ite (State.Logs.refl [] s).lowerSelect.receiveBytes.answer

theorem execSelectRaised_logs (p : Port) : Answer.Logs s (execSelectRaised p s) := by
  unfold execSelectRaised
  exact (State.Logs.refl [] s).raiseSelect.answer.ite (Answer.logs_refl s)

theorem execResetLockoutFeeder_logs (p : Port) (target : Byte) : Answer.Logs s (execResetLockoutFeeder p target s) := by
  refine serve_logs s p _ (JudgeLogs.authorised (judge := fun s =>
    if target = 0 then s.resetRectifier else s.forFeeder target s.resetFeeder) (fun ex s => ?_) p)
  split
  · exact State.resetRectifier_logs ex s
  · exact judgeLogs_forFeeder State.resetFeeder_logs target ex s

theorem exec_logs (c : Instr) (h : leavesRelation c = false) : Answer.Logs s (exec c s) := by
  cases c with
  | powerOnReset | warmReset | readConditions | writeSetting => cases h
  | sampleSetArrival bytes => exact execSampleSetArrival_logs s bytes
  | sampleWatchdogExpiry => exact execSampleWatchdogExpiry_logs s
  | blindTimerExpiry => exact execBlindTimerExpiry_logs s
  | crossing width => exact execCrossing_logs s width
  | acquireDeadlineExpiry => exact ((State.Logs.refl [] s).onDeadline fun _ => (State.Logs.refl [] s).toUnsync).answer
  | lockedDeadlineExpiry => exact ((State.Logs.refl [] s).onDeadline fun hs => (State.Logs.refl [] s).lockedExpires hs).answer
  | holdoverDeadlineExpiry => exact ((State.Logs.refl [] s).onDeadline fun hs => (State.Logs.refl [] s).holdoverExpires hs).answer
  | gatePulseStart g => exact execGatePulseStart_logs s g
  | gatePulseEnd g => exact execGatePulseEnd_logs s g
  | gateFeedback g => exact execGateFeedback_logs s g
  | startRectifier p => exact serve_logs s p _ (State.startRectifier_logs.authorised p)
  | stopRectifier p => exact serve_logs s p _ State.stopRectifier_logs
  | restartWindowExpiry => exact execRestartWindowExpiry_logs s
  | resetLockoutRectifier p => exact serve_logs s p _ (State.resetRectifier_logs.authorised p)
  | resetLockoutFeeder p target => exact execResetLockoutFeeder_logs s p target
  | acBreakerOpen => exact execAcBreakerOpen_logs s
  | acBreakerClosed => exact execAcBreakerClosed_logs s
  | eoffAsserted => exact execEoffAsserted_logs s
  | eoffReleased => exact execEoffReleased_logs s
  | gateTest p repeats skip => exact serve_logs s p _ ((State.gateTest_logs _ _).authorised p)
  | gateTestStepEnd => exact execGateTestStepEnd_logs s
  | gateTestDriveEnd => exact execGateTestDriveEnd_logs s
  | breakerPositionOpen f => exact execBreakerPositionOpen_logs s f
  | breakerPositionClosed f => exact execBreakerPositionClosed_logs s f
  | deadTimeExpiry f => exact execDeadTimeExpiry_logs s f
  | closeSupervisionExpiry f => exact execCloseSupervisionExpiry_logs s f
  | reclaimExpiry f => exact execReclaimExpiry_logs s f
  | followWaitExpiry f => exact execFollowWaitExpiry_logs s f
  | tripSupervisionExpiry f => exact execTripSupervisionExpiry_logs s f
  | closeFeeder p feeder => exact serve_settle_logs s p _ ((judgeLogs_forFeeder State.closeFeeder_logs feeder).authorised p)
  | openFeeder p feeder => exact serve_settle_logs s p _ (judgeLogs_forFeeder State.openFeeder_logs feeder)
  | lineTestExpiry => exact execLineTestExpiry_logs s
  | placeBlock p sec tag openFirst =>
    exact serve_settle_logs s p _ (judgeLogs_forFeeder (State.placeBlock_logs p tag openFirst) sec)
  | removeBlock p sec tag => exact serve_logs s p _ (judgeLogs_forFeeder (State.removeBlock_logs p tag) sec)
  | earthSwitchClosed f => exact execEarthSwitchClosed_logs s f
  | earthSwitchOpened f => exact execEarthSwitchOpened_logs s f
  | selectorChange pos => exact execSelectorChange_logs s pos
  | releaseHold p => exact serve_logs s p _ ((State.releaseHold_logs p).authorised p)
  | status l v => exact receive_logs s l _
  | tripReq l i id => exact receive_logs s l _
  | tripAck l i id => exact receive_logs s l _
  | restored l i => exact receive_logs s l _
  | lockout l i => exact receive_logs s l _
  | blockAdd l i tag => exact receive_logs s l _
  | blockDel l i tag => exact receive_logs s l _
  | blockSet l i tags => exact receive_logs s l _
  | badFrame l rx => exact execBadFrame_logs s l rx
  | frameTransmit l => exact execFrameTransmit_logs s l
  | heartbeatExpiry l => exact execHeartbeatExpiry_logs s l
  | lossTimerExpiry l => exact execLossTimerExpiry_logs s l
  | refreshExpiry l => exact execRefreshExpiry_logs s l
  | retryExpiry l i => exact execRetryExpiry_logs s l i
  | resetSilenceEnd l => exact execResetSilenceEnd_logs s l
  | attachJournal p => exact serve_logs s p _ (State.attach_logs p)
  | detachJournal p => exact serve_logs s p _ (State.detach_logs p)
  | fetchEvent p => exact serve_logs s p _ (State.fetch_logs p)
  | setAttentionMask p mask => exact serve_logs s p _ (State.setMask_logs p mask)
  | readJournalState p => exact serve_logs s p _ (judgeLogs_answer State.journalBytes)
  | readRecord p slot first count => exact serve_logs s p _ (State.readRecord_logs _ _ _)
  | selectLow p bytes => exact execSelectLow_logs s p bytes
  | selectRaised p => exact execSelectRaised_logs s p
  | unknownCommand p code => exact serve_logs s p _ (judgeLogs_refuse _)
  | readStatus p => exact serve_logs s p _ (judgeLogs_answer fun s => s.statusBytes p)
  | readMeasurements p => exact serve_logs s p _ (judgeLogs_answer State.measurementBytes)
  | readFeeder p feeder => exact serve_logs s p _ (judgeLogs_forFeeder (fun f => judgeLogs_answer fun s => s.feederBytes f) feeder)
  | readSection p sec => exact serve_logs s p _ (judgeLogs_forFeeder (fun f => judgeLogs_answer fun s => s.sectionBytes f) sec)
  | readRectifier p => exact serve_logs s p _ (judgeLogs_answer State.rectBytes)
  | readTracker p => exact serve_logs s p _ (judgeLogs_answer State.trackerBytes)
  | readLink p link => exact serve_logs s p _ (State.readLink_logs link)
  | readSetting p id => exact serve_logs s p _ (State.readSetting_logs _)

end

end Sys2Proof.Machine
end


section
/-! PROOFS. The coordination map that is formed again, WRITE_SETTING, READ_CONDITIONS and the resets; and with them what
every step keeps: the gates rule, the journal and its records, the map and the latches of the conditions. -/

-- One text with the model: proofs elaborated side by side would need more threads than the check's memory holds.
set_option Elab.async false

namespace Sys2Proof.Machine

/-! ## The link states stay (08 R145) -/

/-- The links are in the states they were in. -/
def State.SameLinks (s t : State) : Prop := ∀ l, (t.links.get l).state = (s.links.get l).state

section
variable {r s : State} {f : Feeder} {l : Link} {i : Index} {lock : LockCause} {w : Coordination} {a : Bool}

theorem State.SameLinks.only {t : State} (h : r.SameLinks s) (hj : s.JournalOnly t) : r.SameLinks t :=
  fun l => by rw [hj.links]; exact h l

theorem State.SameLinks.modLink {g : LinkUnit → LinkUnit} (h : r.SameLinks s) (hg : ∀ k, (g k).state = k.state) :
    r.SameLinks (s.modLink l g) := by
  intro m
  rw [State.modLink_get]
  split
  · next hlm => rw [hg, hlm]; exact h m
  · exact h m

theorem State.SameLinks.modCtx {g : Context → Context} (h : r.SameLinks s) : r.SameLinks (s.modCtx f g) := h

theorem State.SameLinks.modSection {g : Section → Section} (h : r.SameLinks s) : r.SameLinks (s.modSection f g) := h

theorem State.SameLinks.askFor {x : Index → Frame} (h : r.SameLinks s) : r.SameLinks (s.askFor f x) := by
  unfold State.askFor
  split
  · exact h.modLink fun k => k.ask_state _
  · exact h

theorem State.SameLinks.abortTest (h : r.SameLinks s) : r.SameLinks (s.abortTest f a) := by
  unfold State.abortTest
  split
  · have hlog : r.SameLinks ((s.modLine fun u => { u with tested := none, timer := none }).append .lineTest (.feeder f)
        (.line .aborted) 0) := State.SameLinks.only (s := s.modLine _) h (State.append_only _ _ _ _ _)
    exact hlog
  · exact h

theorem State.SameLinks.enterLocked (h : r.SameLinks s) : r.SameLinks (s.enterLocked f lock) := by
  unfold State.enterLocked
  extract_lets t u
  have ht : r.SameLinks t := State.SameLinks.abortTest h
  have hu : r.SameLinks u := ht.only (State.append_only _ _ _ _ _)
  split
  · exact hu.askFor
  · exact hu

theorem State.SameLinks.lockoutDemand (h : r.SameLinks s) : r.SameLinks (s.lockoutDemand f lock) := by
  unfold State.lockoutDemand
  split
  case h_6 => (repeat' split) <;> exact h
  all_goals first | exact h.enterLocked | exact h | (split <;> first | exact h.enterLocked | exact h)

theorem State.SameLinks.coordDemand (h : r.SameLinks s) : r.SameLinks (s.coordDemand f w) := by
  unfold State.coordDemand
  split
  · exact h.lockoutDemand
  · exact h.lockoutDemand
  · exact h
  · exact h

theorem State.SameLinks.setCoordination (h : r.SameLinks s) : r.SameLinks (s.setCoordination f w a) := by
  unfold State.setCoordination
  split
  · exact h
  · exact State.SameLinks.only (State.SameLinks.coordDemand h.modSection)
      ((State.append_only _ _ _ _ _).trans (State.onsetIf_only _ _ _))

end

/-! ## Sections under a changed mapping (07 R130) -/

theorem State.tagEntries_only (s : State) (f : Feeder) (k : Kind) (d : Detail) (tags : List Tag) :
    s.JournalOnly (s.tagEntries f k d tags) :=
  State.JournalOnly.foldl (fun t _ => t.append_only _ _ _ _) tags s

theorem State.overflowEntry_only (s : State) (f : Feeder) (was now : Bool) (tag : Tag) :
    s.JournalOnly (s.overflowEntry f was now tag) := by
  unfold State.overflowEntry
  split
  · exact s.append_only _ _ _ _
  split
  · exact s.append_only _ _ _ _
  · exact .refl s

theorem State.coordDemand_only (s : State) (f : Feeder) (w : Coordination) : s.SequencerOnly (s.coordDemand f w) := by
  unfold State.coordDemand
  split
  · exact s.lockoutDemand_only f _
  · exact s.lockoutDemand_only f _
  · exact .refl s
  · exact .refl s

theorem State.setCoordination_same {s : State} {f : Feeder} {w : Coordination} (h : s.sections[f].coord = w) (a : Bool) :
    s.setCoordination f w a = s := if_pos h

/-- The table after the change of a section's coordination: nothing but the section's value and its summary. -/
theorem State.setCoordination_table {s : State} {f : Feeder} {w : Coordination} (h : s.sections[f].coord ≠ w) (a : Bool) :
    (s.setCoordination f w a).sections = (s.modSection f fun x =>
      { x with coord := w, summary := if w = .uncoordinated ∨ w = .single then none else x.summary }).sections := by
  unfold State.setCoordination
  rw [if_neg h]
  exact ((State.onsetIf_only _ _ _).sections.trans (State.append_only _ _ _ _ _).sections).trans (State.coordDemand_only _ _ _).sections

/-- A section's coordination takes the value, and nothing else moves in the table but its summary. -/
theorem State.setCoordination_sections (s : State) (f j : Feeder) (w : Coordination) (a : Bool) :
    (s.setCoordination f w a).sections[j].mapping = s.sections[j].mapping
      ∧ (s.setCoordination f w a).sections[j].coord = if f = j then w else s.sections[j].coord := by
  by_cases heq : s.sections[f].coord = w
  · rw [State.setCoordination_same heq]
    refine ⟨rfl, ?_⟩
    split
    · next hfj => rw [← hfj]; exact heq
    · rfl
  · simp only [State.setCoordination_table heq, State.modSection_get]
    split
    · next hfj => subst hfj; exact ⟨rfl, rfl⟩
    · exact ⟨rfl, rfl⟩

/-- The section keeps its place in the map: only its role can change (08 R145). -/
def keepsPlace : Option Mapping → Option Mapping → Bool
  | some a, some b => a.samePair b
  | none, none => true
  | _, _ => false

/-- The section takes its new mapping, and its lists are emptied (07 R130). -/
def State.clearedSection (s : State) (f : Feeder) (new : Option Mapping) : State :=
  ((s.modSection f fun x => { x with mapping := new, peers := [], overflow := false, summary := none }).tagEntries f
    .blockRemoved .removedPeer s.sections[f].peers).overflowEntry f s.sections[f].overflow false 0

theorem State.remapSection_eq (s : State) (f : Feeder) (new : Option Mapping) : s.remapSection f new =
    if keepsPlace s.sections[f].mapping new then s.modSection f fun x => { x with mapping := new }
    else (s.clearedSection f new).setCoordination f (if new.isSome then .uncoordinated else .single) s.allCoordinated := by
  unfold State.remapSection keepsPlace
  rfl

theorem State.clearedSection_only (s : State) (f : Feeder) (new : Option Mapping) :
    (s.modSection f fun x => { x with mapping := new, peers := [], overflow := false, summary := none }).JournalOnly
      (s.clearedSection f new) :=
  (State.tagEntries_only _ _ _ _ _).trans (State.overflowEntry_only _ _ _ _ _)

theorem State.clearedSection_sections (s : State) (f j : Feeder) (new : Option Mapping) :
    (s.clearedSection f new).sections[j] = if f = j then
      { s.sections[j] with mapping := new, peers := [], overflow := false, summary := none } else s.sections[j] := by
  simp only [(s.clearedSection_only f new).sections, State.modSection_get]
  split
  · next hfj => subst hfj; rfl
  · rfl

theorem keepsPlace_isSome {a b : Option Mapping} (h : keepsPlace a b = true) : a.isSome = b.isSome := by
  cases a <;> cases b <;> first | rfl | cases h

/-- What a remapped section stands at; the other sections do not move. -/
theorem State.remapSection_sections (s : State) (f j : Feeder) (new : Option Mapping) :
    (s.remapSection f new).sections[j].mapping = (if f = j then new else s.sections[j].mapping)
      ∧ (s.remapSection f new).sections[j].coord = if f = j ∧ keepsPlace s.sections[f].mapping new = false
          then (if new.isSome then .uncoordinated else .single) else s.sections[j].coord := by
  rw [State.remapSection_eq]
  split
  · next hkeep =>
    rw [State.modSection_get]
    split
    · next hfj => subst hfj; simp only [hkeep, reduceCtorEq, and_false, if_false, true_and]
    · next hfj => simp only [hfj, if_false, false_and, and_self]
  · next hkeep =>
    obtain ⟨hm, hc⟩ := State.setCoordination_sections (s.clearedSection f new) f j
      (if new.isSome then .uncoordinated else .single) s.allCoordinated
    rw [hm, hc, s.clearedSection_sections]
    by_cases hfj : f = j
    · subst hfj
      simp only [Bool.not_eq_true _ ▸ hkeep, and_self, if_true]
    · simp only [hfj, if_false, false_and, and_self]

theorem State.remapSection_singles {s : State} (h : s.SinglesUnmapped) (f : Feeder) (new : Option Mapping) :
    (s.remapSection f new).SinglesUnmapped := by
  intro j
  obtain ⟨hm, hc⟩ := s.remapSection_sections f j new
  rw [hm, hc]
  by_cases hfj : f = j
  · subst hfj
    cases hk : keepsPlace s.sections[f].mapping new with
    | true =>
      have := keepsPlace_isSome hk
      have hold := h f
      cases hn : new <;> cases hs : s.sections[f].mapping <;> simp_all
    | false => cases new <;> simp
  · simpa only [hfj, false_and, if_false] using h j

theorem State.remapSection_sameLinks {r s : State} (h : r.SameLinks s) (f : Feeder) (new : Option Mapping) :
    r.SameLinks (s.remapSection f new) := by
  rw [State.remapSection_eq]
  split
  · exact h
  · exact State.SameLinks.setCoordination (h.modSection.only (s.clearedSection_only f new))

/-- A section's mapping is seen by the links' conditions and UNCOORDINATED alone. -/
theorem State.modSection_but {s : State} {f : Feeder} {g : Section → Section} :
    s.LogsBut [.uncoordinated, .linkUDown, .linkDDown] (s.modSection f g) := by
  refine ⟨State.logsCore_of_eq rfl rfl rfl (fun _ => rfl) rfl fun b hb hp => ?_, id⟩
  cases b with
  | uncoordinated | linkUDown | linkDDown => simp at hb
  | _ => exact hp

theorem State.setCoordination_but {s : State} {f : Feeder} {w : Coordination} {a : Bool} :
    s.LogsBut [.uncoordinated, .linkUDown, .linkDDown] (s.setCoordination f w a) := by
  unfold State.setCoordination
  split
  · exact (State.Logs.refl _ _).toLogsBut
  · exact State.LogsBut.trans (State.modSection_but (f := f)) (State.Logs.onsetIf (State.Logs.append (State.Logs.coordDemand (.refl _ _)))).toLogsBut

theorem State.clearedSection_but (s : State) {f : Feeder} {new : Option Mapping} :
    s.LogsBut [.uncoordinated, .linkUDown, .linkDDown] (s.clearedSection f new) := by
  refine State.LogsBut.trans (State.modSection_but (f := f)
    (g := fun x => { x with mapping := new, peers := [], overflow := false, summary := none })) ?_
  exact (State.Logs.overflowEntry (State.Logs.tagEntries (.refl _ _))).toLogsBut

/-- A remapped section that is left uncoordinated where none was is an onset (07 R130). -/
theorem State.remapSection_but {s : State} (hs : s.SinglesUnmapped) (f : Feeder) (new : Option Mapping) :
    s.LogsBut [.linkUDown, .linkDDown] (s.remapSection f new) := by
  refine State.LogsBut.cover (b := .uncoordinated) ?_ fun p hp => ?_
  · rw [State.remapSection_eq]
    split
    · exact State.modSection_but
    exact State.LogsBut.trans s.clearedSection_but State.setCoordination_but
  · by_cases hall : s.allCoordinated = true
    swap
    · exact .inl (s.present_uncoordinated_iff.mpr (Bool.eq_false_iff.mpr hall))
    rw [State.present_uncoordinated_iff, Bool.eq_false_iff, ne_eq, State.allCoordinated_iff, not_forall] at hp
    obtain ⟨j, hj⟩ := hp
    obtain ⟨hm, hc⟩ := s.remapSection_sections f j new
    rw [hm, hc] at hj
    have hold := s.allCoordinated_iff.mp hall
    by_cases hfj : f = j
    swap
    · simp only [hfj, if_false, false_and] at hj
      exact absurd (hold j) hj
    subst hfj
    cases hk : keepsPlace s.sections[f].mapping new with
    | true =>
      simp only [hk, if_true, reduceCtorEq, and_false, if_false] at hj
      have := keepsPlace_isSome hk
      rcases hold f with hnone | hcoord
      · exact absurd (.inl (Option.isSome_eq_false_iff.mp (by rw [← this, hnone]; rfl) |> Option.isNone_iff_eq_none.mp)) hj
      · exact absurd (.inr hcoord) hj
    | false =>
      cases hn : new with
      | none => rw [hn] at hj; simp at hj
      | some m =>
        right
        have hcoord : s.sections[f].coord ≠ .uncoordinated := by
          rcases hold f with hnone | hcoord
          · rw [(hs f).mpr hnone]; simp
          · rw [hcoord]; simp
        rw [State.remapSection_eq, if_neg (by rw [← hn, hk]; simp)]
        have hsec : (s.clearedSection f (some m)).sections[f] = { s.sections[f] with mapping := some m, peers := [], overflow := false, summary := none } := by
          rw [s.clearedSection_sections, if_pos rfl]
        unfold State.setCoordination
        rw [if_neg (by rw [hsec]; exact hcoord)]
        exact State.onsetIf_shows _ p _ (by rw [hall, hsec]; rfl)

/-! ## The map is formed again (08 R144, R145) -/

section
variable {ex : List Latch} {r s before : State}

theorem State.Logs.dropIndex {l : Link} {i : Index} (h : r.Logs ex s) : r.Logs ex (s.dropIndex l i) := by
  unfold State.dropIndex
  extract_lets t
  have ht : r.Logs ex t := h.modIndex
  split
  · exact ht.append
  · exact ht

theorem State.Logs.dropLost (h : r.Logs ex s) : r.Logs ex (s.dropLost before) :=
  h.foldl linkNames fun _ _ ht => ht.foldl indices fun _ _ hu => hu.dropIndex.ite hu

theorem State.Logs.gainedLinks (h : r.Logs ex s) : r.Logs ex (s.gainedLinks before) :=
  h.foldl linkNames fun _ _ ht => ht.onsetIf

theorem State.dropIndex_sameLinks {l : Link} {i : Index} (h : r.SameLinks s) : r.SameLinks (s.dropIndex l i) := by
  unfold State.dropIndex
  extract_lets t
  have ht : r.SameLinks t := h.modLink fun _ => rfl
  split
  · exact ht.only (State.append_only _ _ _ _ _)
  · exact ht

theorem State.dropLost_sameLinks (h : r.SameLinks s) : r.SameLinks (s.dropLost before) := by
  refine List.foldlRecOn (motive := fun t : State => r.SameLinks t) linkNames _ h fun t ht l _ => ?_
  refine List.foldlRecOn (motive := fun t : State => r.SameLinks t) indices _ ht fun u hu i _ => ?_
  split
  · exact State.dropIndex_sameLinks hu
  · exact hu

theorem State.gainedLinks_only (s before : State) : s.JournalOnly (s.gainedLinks before) :=
  State.JournalOnly.foldl (fun t _ => t.onsetIf_only _ _) linkNames s

/-- A link that gained its first feeder and is not UP has its condition latched (08 R145). -/
theorem State.gainedLinks_shows {l : Link} (p : Port) (hm : s.mappedTo l = true) (hb : before.mappedTo l = false)
    (hl : (s.links.get l).state ≠ .up) : ((s.gainedLinks before).ports.get p).Shows (linkLatch l) := by
  have hstep (t : State) (ht : s.JournalOnly t) :
      ((t.onsetIf (t.mappedTo l && !before.mappedTo l && (t.links.get l).state != .up) (linkLatch l)).ports.get p).Shows (linkLatch l) := by
    refine State.onsetIf_shows _ p _ ?_
    have hmt : t.mappedTo l = true := by rw [← hm]; simp only [State.mappedTo, ht.sections]
    rw [hmt, hb, ht.links, bne_iff_ne.mpr hl]
    rfl
  unfold State.gainedLinks linkNames
  simp only [List.foldl_cons, List.foldl_nil]
  cases l with
  | u => exact State.onsetIf_keeps _ _ _ _ _ (hstep s (.refl s))
  | d => exact hstep _ (s.onsetIf_only _ _)

end

/-- The sections that move take their new mappings, lowest feeder first (08 R145). -/
def State.remapSections (fs : List Feeder) (t : State) : State :=
  fs.foldl (fun t f =>
    if t.sections[f].mapping = t.settings.mapping f then t else t.remapSection f (t.settings.mapping f)) t

theorem State.remap_eq (s : State) :
    s.remap = (((State.remapSections feeders s).dropLost s).gainedLinks s).onsetIf s.settings.mapLoss .settingsClamped := by
  unfold State.remap
  rfl

end Sys2Proof.Machine
end


section
/-! PROOFS. What a step keeps: WRITE_SETTING, READ_CONDITIONS and the resets, and every step by its command. -/

-- One text with the model: proofs elaborated side by side would need more threads than the check's memory holds.
set_option Elab.async false

namespace Sys2Proof.Machine

/-! ## The map after all its moves (08 R144, R145) -/

theorem State.remapSection_wide (s : State) (f : Feeder) (new : Option Mapping) :
    s.LogsBut [.uncoordinated, .linkUDown, .linkDDown] (s.remapSection f new) := by
  rw [State.remapSection_eq]
  split
  · exact State.modSection_but
  · exact State.LogsBut.trans s.clearedSection_but State.setCoordination_but

theorem State.setCoordination_settings (s : State) (f : Feeder) (w : Coordination) (a : Bool) :
    (s.setCoordination f w a).settings = s.settings := by
  unfold State.setCoordination
  split
  · rfl
  · rw [(State.onsetIf_only _ _ _).settings, (State.append_only _ _ _ _ _).settings, (State.coordDemand_only _ _ _).settings]
    rfl

theorem State.remapSection_settings (s : State) (f : Feeder) (new : Option Mapping) :
    (s.remapSection f new).settings = s.settings := by
  rw [State.remapSection_eq]
  split
  · rfl
  · rw [State.setCoordination_settings, (s.clearedSection_only f new).settings]
    rfl

/-- What the sections' moves keep, whatever stood before. -/
structure State.MapMoves (s t : State) : Prop where
  wide : s.LogsBut [.uncoordinated, .linkUDown, .linkDDown] t
  but : s.SinglesUnmapped → s.LogsBut [.linkUDown, .linkDDown] t
  singles : s.SinglesUnmapped → t.SinglesUnmapped
  links : s.SameLinks t
  settings : t.settings = s.settings

theorem State.MapMoves.refl (s : State) : s.MapMoves s :=
  ⟨(State.Logs.refl _ s).toLogsBut, fun _ => (State.Logs.refl _ s).toLogsBut, id, fun _ => rfl, rfl⟩

theorem State.MapMoves.trans {a b c : State} (h : a.MapMoves b) (k : b.MapMoves c) : a.MapMoves c :=
  ⟨h.wide.trans k.wide, fun hs => (h.but hs).trans (k.but (h.singles hs)), k.singles ∘ h.singles,
    fun l => (k.links l).trans (h.links l), k.settings.trans h.settings⟩

theorem State.remapSection_moves (s : State) (f : Feeder) (new : Option Mapping) : s.MapMoves (s.remapSection f new) :=
  ⟨s.remapSection_wide f new, fun hs => s.remapSection_but hs f new, fun hs => s.remapSection_singles hs f new,
    s.remapSection_sameLinks (fun _ => rfl) f new, s.remapSection_settings f new⟩

theorem State.remapSections_moves (fs : List Feeder) (s : State) : s.MapMoves (State.remapSections fs s) := by
  refine List.foldlRecOn (motive := fun t : State => s.MapMoves t) fs _ (.refl s) fun t ht f _ => ?_
  split
  · exact ht
  · exact ht.trans (t.remapSection_moves f _)

/-- The sections of the list end where the settings put them; the others do not move. -/
theorem State.remapSections_mapping (fs : List Feeder) (s : State) (f : Feeder) :
    (State.remapSections fs s).sections[f].mapping = if f ∈ fs then s.settings.mapping f else s.sections[f].mapping := by
  induction fs generalizing s with
  | nil => rfl
  | cons e rest ih =>
    have hcons : State.remapSections (e :: rest) s = State.remapSections rest
        (if s.sections[e].mapping = s.settings.mapping e then s else s.remapSection e (s.settings.mapping e)) := rfl
    rw [hcons, ih]
    by_cases heq : s.sections[e].mapping = s.settings.mapping e
    · rw [if_pos heq]
      by_cases hef : f = e
      · subst hef; simp only [heq, List.mem_cons, true_or, ite_self]
      · simp only [List.mem_cons, hef, false_or]
    · rw [if_neg heq, s.remapSection_settings, (s.remapSection_sections e f _).1]
      by_cases hef : f = e
      · subst hef; simp only [List.mem_cons, true_or, if_true, ite_self]
      · simp only [List.mem_cons, hef, false_or, Ne.symm hef, if_false]

theorem State.remapSections_follows (s : State) (f : Feeder) :
    (State.remapSections feeders s).sections[f].mapping = s.settings.mapping f := by
  rw [State.remapSections_mapping, if_pos (by revert f; decide)]

/-- The end of the map's change: the lost indices, the gained links and the map loss. -/
theorem State.remap_tail (s u : State) (ex : List Latch) : u.Logs ex
    (((u.dropLost s).gainedLinks s).onsetIf s.settings.mapLoss .settingsClamped) :=
  (State.Logs.refl ex u).dropLost.gainedLinks.onsetIf

theorem State.remap_moves (s : State) :
    s.LogsBut [.uncoordinated, .linkUDown, .linkDDown] s.remap ∧ s.remap.settings = s.settings
      ∧ s.remap.MapFollowsSettings ∧ (s.SinglesUnmapped → s.remap.SinglesUnmapped) := by
  have hmoves := State.remapSections_moves feeders s
  have htail := s.remap_tail (State.remapSections feeders s) [.uncoordinated, .linkUDown, .linkDDown]
  rw [← s.remap_eq] at htail
  have hset : s.remap.settings = s.settings := htail.settings.trans hmoves.settings
  refine ⟨hmoves.wide.trans htail.toLogsBut, hset, fun f => ?_, fun hs => htail.singles (hmoves.singles hs)⟩
  rw [htail.mapping, s.remapSections_follows, hset]

/-- A link that gains its first feeder shows its condition (08 R145). -/
theorem State.remap_link (s : State) (l : Link) (p : Port) (hp : s.remap.present (linkLatch l) = true) :
    s.present (linkLatch l) = true ∨ (s.remap.ports.get p).Shows (linkLatch l) := by
  rw [s.remap_eq] at hp ⊢
  generalize hu : State.remapSections feeders s = u at hp ⊢
  have hlinks : s.SameLinks u := hu ▸ (State.remapSections_moves feeders s).links
  have hv : s.SameLinks (u.dropLost s) := State.dropLost_sameLinks hlinks
  have hlast := ((u.dropLost s).gainedLinks_only s).trans (((u.dropLost s).gainedLinks s).onsetIf_only s.settings.mapLoss .settingsClamped)
  rw [State.present_linkLatch, Bool.and_eq_true, bne_iff_ne, ne_eq] at hp
  obtain ⟨hup, hmapped⟩ := hp
  have hm : (u.dropLost s).mappedTo l = true := by rw [← hmapped]; simp only [State.mappedTo, hlast.sections]
  rw [hlast.links] at hup
  cases hb : s.mappedTo l with
  | true => left; rw [State.present_linkLatch, hb, Bool.and_true, bne_iff_ne, ← hv l]; exact hup
  | false => right; exact State.onsetIf_keeps _ _ _ _ _ (State.gainedLinks_shows p hm hb hup)

theorem State.remap_logs (s : State) (hs : s.SinglesUnmapped) : s.LogsBut [] s.remap := by
  have hmoves := (State.remapSections_moves feeders s).but hs
  have htail := s.remap_tail (State.remapSections feeders s) [.linkUDown, .linkDDown]
  rw [← s.remap_eq] at htail
  exact ((hmoves.trans htail.toLogsBut).cover fun p => s.remap_link .u p).cover fun p => s.remap_link .d p

/-! ## What a step keeps -/

/-- The invariants that hold of the first state hold of the second. -/
structure State.Keeps (s t : State) : Prop where
  journal : s.JournalSound none → t.JournalSound none
  gates : s.GatesAllowed → t.GatesAllowed
  map : s.MapFollowsSettings → t.MapFollowsSettings
  conditions : s.ConditionsLatched → t.ConditionsLatched

theorem State.Keeps.trans {a b c : State} (h : a.Keeps b) (k : b.Keeps c) : a.Keeps c :=
  ⟨k.journal ∘ h.journal, k.gates ∘ h.gates, k.map ∘ h.map, k.conditions ∘ h.conditions⟩

theorem State.LogsCore.latchesShow {s t : State} (h : s.LogsCore [] t) (hs : s.LatchesShow) : t.LatchesShow :=
  fun p b hb => (h.present p b (by simp) hb).elim (fun hp => h.shown p b (hs p b hp)) id

theorem State.Logs.keeps {s t : State} (h : s.Logs [] t) : s.Keeps t where
  journal := h.journal
  gates := h.gates
  map hm f := by rw [h.mapping, h.settings]; exact hm f
  conditions := fun ⟨hs, hl⟩ => ⟨h.singles hs, h.latchesShow hl⟩

theorem State.keeps_pending (s : State) (q : List Instr) : s.Keeps { s with pending := q } where
  journal h := h.of_eq rfl (fun _ => rfl) fun _ => .rfl
  gates h := h
  map h := h
  conditions := fun ⟨hs, hl⟩ => ⟨hs, fun p b hb => hl p b (by cases b <;> exact hb)⟩

/-! ## WRITE_SETTING (10 R181) -/

theorem Settings.write_f {st : Settings} {n : SettingName} {f : Feeder} {x : FeederSetting} (v : Int) (h : n ≠ .feeder f x.idx) :
    (st.write n v).f f x = st.f f x := by
  cases n with
  | glob i => rfl
  | feeder g i =>
    simp only [Settings.f, Settings.write, Settings.value, Fin.getElem_fin, Vector.getElem_set]
    split
    · next hgf =>
      obtain rfl := Fin.ext hgf
      rw [Vector.getElem_set_ne]
      exact fun hi => h (by rw [Fin.ext hi])
    · rfl

/-- A setting outside the map leaves the map as it is (08 R144). -/
theorem Settings.write_mapping {st : Settings} {n : SettingName} (v : Int) (h : n.ofMap = false) :
    (st.write n v).mapping = st.mapping := by
  have hne (f : Feeder) (x : FeederSetting) (hx : x.idx = FeederSetting.link.idx ∨ x.idx = FeederSetting.index.idx ∨ x.idx = FeederSetting.role.idx) :
      n ≠ .feeder f x.idx := by
    rintro rfl
    simp only [SettingName.ofMap, Bool.or_eq_false_iff, decide_eq_false_iff_not] at h
    tauto
  have hnames : (st.write n v).names = st.names := by
    funext f
    simp only [Settings.names, Settings.write_f v (hne f .link (by simp)), Settings.write_f v (hne f .index (by simp)),
      Settings.write_f v (hne f .role (by simp))]
  funext f
  simp only [Settings.mapping, hnames]

/-- The conditions do not hang on a setting. -/
theorem State.withSettings_core (s : State) (st : Settings) : s.LogsBut [] { s with settings := st } :=
  ⟨State.logsCore_of_eq rfl rfl rfl (fun _ => rfl) rfl fun b _ hp => by cases b <;> exact hp, id⟩

theorem State.Logs.reformAlpha {ex : List Latch} {r s : State} {n : SettingName} (h : r.Logs ex s) : r.Logs ex (s.reformAlpha n) := by
  unfold State.reformAlpha
  extract_lets limited
  have hl : r.Logs ex limited := by
    unfold limited
    split
    · exact h
    · exact h.modRect_same
  split
  · exact hl
  · exact hl
  · exact h.modRect_same
  all_goals exact h

/-- What an operation leaves behind that may form the map again. -/
structure State.Writes (s t : State) : Prop where
  keeps : s.Keeps t
  pending : t.pending = s.pending

theorem State.Logs.writes {s t : State} (h : s.Logs [] t) : s.Writes t := ⟨h.keeps, h.pending⟩

theorem State.Writes.trans {a b c : State} (h : a.Writes b) (k : b.Writes c) : a.Writes c :=
  ⟨h.keeps.trans k.keeps, k.pending.trans h.pending⟩

/-- A setting outside the map is stored. -/
theorem State.withSettings_writes (s : State) {n : SettingName} (v : Int) (h : n.ofMap = false) :
    s.Writes { s with settings := s.settings.write n v } where
  keeps :=
    { journal := (s.withSettings_core _).journal
      gates := (s.withSettings_core _).gates
      map := fun hm f => by rw [Settings.write_mapping v h]; exact hm f
      conditions := fun ⟨hs, hl⟩ => ⟨hs, (s.withSettings_core _).latchesShow hl⟩ }
  pending := rfl

theorem SettingName.ofAlpha_ofMap {n : SettingName} (h : n.ofAlpha = true) : n.ofMap = false := by
  cases n with
  | glob i => rfl
  | feeder f i => cases h

/-- A setting is stored and takes its effects: the map is that of the settings again (10 R181 step 6). -/
theorem State.storeSetting_writes (s : State) (p : Port) (id : Nat) (n : SettingName) (v : Int) :
    s.Writes (s.storeSetting p id n v) := by
  unfold State.storeSetting
  have hlog : ({ s with settings := s.settings.write n v } : State).Logs []
      (({ s with settings := s.settings.write n v } : State).append .settingChanged (.port p) (.setting id) v) :=
    (State.Logs.refl [] _).append
  unfold State.settingEffects
  split
  · next ha => exact (s.withSettings_writes v (SettingName.ofAlpha_ofMap ha)).trans hlog.reformAlpha.writes
  split
  · next hn => exact (s.withSettings_writes v (by rw [hn]; rfl)).trans hlog.tryRestart.writes
  split
  · have hbut := (s.withSettings_core (s.settings.write n v)).trans hlog.toLogsBut
    generalize (({ s with settings := s.settings.write n v } : State).append .settingChanged (.port p) (.setting id) v) = t at *
    obtain ⟨hwide, -, hfollows, hsingles⟩ := t.remap_moves
    exact
      { keeps :=
          { journal := hwide.journal ∘ hbut.journal
            gates := hwide.gates ∘ hbut.gates
            map := fun _ => hfollows
            conditions := fun ⟨hs, hl⟩ =>
              ⟨hsingles (hlog.singles hs), (t.remap_logs (hlog.singles hs)).latchesShow (hbut.latchesShow hl)⟩ }
        pending := hwide.pending.trans hbut.pending }
  · next hn => exact (s.withSettings_writes v (Bool.not_eq_true _ ▸ hn)).trans hlog.writes

theorem State.writeValue_writes (s : State) (p : Port) (id : Nat) (n : SettingName) (v : Int) (limited : Bool) :
    s.Writes (s.writeValue p id n v limited).state := by
  unfold State.writeValue
  split
  · exact (State.Logs.refl [] s).writes
  split
  · exact (State.Logs.refl [] s).onsetIf.writes
  · exact (s.storeSetting_writes p id n v).trans (State.Logs.refl [] _).onsetIf.writes

theorem State.writeSetting_writes (s : State) (p : Port) (id : Nat) (v : Int) : s.Writes (s.writeSetting p id v).state := by
  unfold State.writeSetting
  split
  · exact (State.Logs.refl [] s).writes
  · dsimp only
    split_ifs
    · exact (State.Logs.refl [] s).writes
    · exact s.writeValue_writes _ _ _ _ _
    · exact s.writeValue_writes _ _ _ _ _

/-- A port command whose judgement writes. -/
theorem State.serve_writes (s : State) (p : Port) (c : Instr) {judge : State → Reply} (hj : ∀ t : State, t.Writes (judge t).state) :
    s.Writes (s.serve p c judge) := by
  unfold State.serve Reply.respond
  exact ((State.Logs.refl [] s).receiveRequest.writes.trans (hj _)).trans (State.Logs.refl [] _).modPort.writes

/-! ## READ_CONDITIONS (10 R179) -/

theorem foldl_or_shows {b : Latch} (pres : Latch → Bool) (hb : pres b = true) (bs : List Latch) (w : BitVec 16)
    (h : b ∈ bs ∨ w &&& b.bit = b.bit) :
    (bs.foldl (fun w x => if pres x then w ||| x.bit else w) w) &&& b.bit = b.bit := by
  induction bs generalizing w with
  | nil => exact h.elim (nomatch ·) id
  | cons x rest ih =>
    refine ih _ ?_
    dsimp only
    rcases h with hmem | hw
    · rcases List.mem_cons.mp hmem with rfl | hrest
      · right; rw [if_pos hb]; exact PortUnit.shows_or_self _ _
      · exact .inl hrest
    · right
      split
      · exact PortUnit.shows_or hw _
      · exact hw

/-- The word of the conditions shows each of them. -/
theorem State.presentWord_shows (s : State) {b : Latch} (h : s.present b = true) : s.presentWord &&& b.bit = b.bit :=
  foldl_or_shows s.present h latches 0 (.inl (by cases b <;> simp [latches]))

/-- Reading the conditions clears no latch of a condition that is present. -/
theorem State.readConditions_writes (s : State) (p : Port) : s.Writes (s.readConditions p).state where
  keeps :=
    { journal := fun h => h.of_eq rfl (fun _ => rfl) fun _ => .rfl
      gates := id
      map := id
      conditions := fun ⟨hs, hl⟩ => by
        refine ⟨hs, fun q b hb => ?_⟩
        have hpres : s.present b = true := by cases b <;> exact hb
        have hold := hl q b hpres
        change ((s.modPort p fun u => { u with latches := u.latches &&& s.presentWord }).ports.get q).latches &&& b.bit = b.bit
        rw [State.modPort_get]
        split
        · next hpq => subst hpq; dsimp only; rw [BitVec.and_assoc, s.presentWord_shows hpres]; exact hold
        · exact hold }
  pending := rfl

/-! ## The resets (09 R172) -/

theorem State.Logs.judgeFound {ex : List Latch} {r s : State} {f : Feeder} (h : r.Logs ex s) : r.Logs ex (s.judgeFound f) := by
  unfold State.judgeFound
  exact h.trip.ite h

theorem State.resetFrom_logs (k : State) (inp : Inputs) (kind : Detail) :
    (k.resetUnits inp kind).Logs [] (k.resetFrom inp kind) := (State.Logs.refl [] _).foldl feeders fun _ _ ht => ht.judgeFound

theorem State.resetUnits_section (k : State) (inp : Inputs) (kind : Detail) (f : Feeder) :
    (k.resetUnits inp kind).sections[f] = k.sections[f].afterReset (k.settings.mapping f) inp.breaker[f] := by
  simp [State.resetUnits]

theorem State.resetUnits_journalSound (k : State) (inp : Inputs) (kind : Detail) : (k.resetUnits inp kind).JournalSound none := by
  rw [State.journalSound_iff]
  refine ⟨⟨Nat.le_of_ble_eq_true rfl, by simp [State.resetUnits, Journal.reset, numbersBefore]⟩, fun p c hc => (by cases p <;> cases hc), fun j => ?_⟩
  have hslot : (k.resetUnits inp kind).slots[j] = Slot.freed := by simp [State.resetUnits]
  rw [hslot]
  rfl

theorem State.resetUnits_gatesAllowed (k : State) (inp : Inputs) (kind : Detail) : (k.resetUnits inp kind).GatesAllowed := by
  refine ⟨fun h => (nomatch h), fun g hg => ?_⟩
  have hgate : (k.resetUnits inp kind).rect.gates[g].driven = false := by simp [State.resetUnits, Rectifier.reset]; rfl
  rw [hgate] at hg
  cases hg

theorem State.resetUnits_follows (k : State) (inp : Inputs) (kind : Detail) : (k.resetUnits inp kind).MapFollowsSettings := by
  intro f
  rw [k.resetUnits_section]
  rfl

theorem State.resetUnits_conditions (k : State) (inp : Inputs) (kind : Detail) : (k.resetUnits inp kind).ConditionsLatched := by
  refine ⟨fun f => ?_, fun p b hb => ?_⟩
  · rw [k.resetUnits_section]
    simp only [Section.afterReset, Section.reset]
    cases k.settings.mapping f <;> simp
  · have hword : ((k.resetUnits inp kind).ports.get p).latches = (k.resetUnits inp kind).freshWord := by cases p <;> rfl
    rw [hword]
    unfold State.freshWord
    exact PortUnit.shows_or (PortUnit.shows_or ((k.resetUnits inp kind).presentWord_shows hb) _) _

/-- After a reset every invariant holds, whatever held before. -/
theorem State.resetFrom_writes (k : State) (inp : Inputs) (kind : Detail) {s : State} (hp : k.pending = s.pending) :
    s.Writes (k.resetFrom inp kind) := by
  have hlogs := k.resetFrom_logs inp kind
  have hkeeps := hlogs.keeps
  exact
    { keeps := ⟨fun _ => hkeeps.journal (k.resetUnits_journalSound inp kind), fun _ => hkeeps.gates (k.resetUnits_gatesAllowed inp kind),
        fun _ => hkeeps.map (k.resetUnits_follows inp kind), fun _ => hkeeps.conditions (k.resetUnits_conditions inp kind)⟩
      pending := hlogs.pending.trans hp }

/-! ## Every command and every step -/

/-- Every command answers a state that keeps the invariants and the queue. -/
theorem exec_writes (c : Instr) (s : State) : ∃ t, exec c s = .next t ∧ s.Writes t := by
  cases h : leavesRelation c with
  | false =>
    obtain ⟨t, ht, hlogs⟩ := exec_logs s c h
    exact ⟨t, ht, hlogs.writes⟩
  | true =>
    cases c with
    | powerOnReset inp => exact ⟨_, rfl, State.resetFrom_writes _ inp _ rfl⟩
    | warmReset inp => exact ⟨_, rfl, State.resetFrom_writes _ inp _ rfl⟩
    | readConditions p => exact ⟨_, rfl, s.serve_writes p _ fun t => t.readConditions_writes p⟩
    | writeSetting p id value =>
      refine ⟨_, rfl, s.serve_writes p _ fun t => ?_⟩
      split
      · exact t.writeSetting_writes p _ _
      · exact (State.Logs.refl [] t).writes
    | _ => cases h

theorem step_keeps {s t : State} (h : step s = .next t) : s.Keeps t := by
  unfold step at h
  cases hp : s.pending with
  | nil =>
    rw [hp] at h
    obtain ⟨u, hu, q, hq⟩ := s.idle_logs
    obtain rfl := Host.Outcome.next.inj h
    rw [hq]
    exact hu.keeps.trans (u.keeps_pending q)
  | cons c rest =>
    rw [hp] at h
    obtain ⟨u, hu, hw⟩ := exec_writes c { s with pending := rest }
    obtain rfl := Host.Outcome.next.inj (hu.symm.trans h)
    exact (s.keeps_pending rest).trans hw.keeps

/-! ## The statements -/

/-- Settles O3: the queue is a part of the relation that every command stays in. -/
theorem everyCommandCompletes : Obligations.EveryCommandCompletes := by
  intro c s
  obtain ⟨t, ht, hw⟩ := exec_writes c s
  exact ⟨t, ht, hw.pending⟩

/-- Settles O56, from what every step keeps. -/
theorem gatesAreDrivenOnlyWhereAllowed : Obligations.GatesAreDrivenOnlyWhereAllowed :=
  fun _ _ hs ht => (step_keeps ht).gates hs

/-- Settles O58, from what every step keeps. -/
theorem journalAndRecordsStaySound : Obligations.JournalAndRecordsStaySound :=
  fun s t hs ht => t.journalSound_iff.mp ((step_keeps ht).journal (s.journalSound_iff.mpr hs))

/-- Settles O59, from what every step keeps. -/
theorem mapAndConditionsStayShown : Obligations.MapAndConditionsStayShown :=
  fun _ _ hs ht => ⟨(step_keeps ht).map hs.1, (step_keeps ht).conditions hs.2⟩

end Sys2Proof.Machine
end


section
/-! PROOFS. The feeders stay safe, first part: what a state shows of one feeder, and what the operations of the sequencer, of
the line test unit and of the section table do to it. -/

-- One text with the model: proofs elaborated side by side would need more threads than the check's memory holds.
set_option Elab.async false

namespace Sys2Proof.Machine

/-! ## What the invariant reads of one feeder -/

/-- A feeder as the invariant sees it: its context, its place with the line test unit, its breaker, and its section's bar. -/
structure FeederView where
  ctx : Context
  queued : Bool
  tested : Bool
  shows : Bool
  barred : Bool

def State.view (s : State) (f : Feeder) : FeederView :=
  ⟨s.ctx[f], s.lineTest.queue.contains f, decide (s.lineTest.tested = some f), s.shows f, s.barred f⟩

/-- All that is asked of a feeder but the bar. -/
structure FeederView.Core (v : FeederView) : Prop where
  sound : v.ctx.Sound
  queued : v.queued = true ↔ v.ctx.state = .queued
  tested : v.tested = true ↔ v.ctx.state = .testing
  shows : v.shows = true ↔ v.ctx.state = .closed ∨ v.ctx.state = .tripping ∨ v.ctx.state = .stuck

/-- All that is asked of a feeder. -/
structure FeederView.Ok (v : FeederView) : Prop extends v.Core where
  bar : v.barred = true → v.ctx.state = .opened ∨ v.ctx.state = .locked ∨ v.ctx.state = .tripping ∨ v.ctx.state = .stuck

/-- The line test unit holds a feeder once, and its timer runs while it tests. -/
def State.TestUnit (s : State) : Prop :=
  s.lineTest.queue.Nodup ∧ (s.lineTest.timer.isSome = true ↔ s.lineTest.tested.isSome = true)

theorem State.feedersSafe_iff (s : State) : s.FeedersSafe ↔ s.TestUnit ∧ ∀ f : Feeder, (s.view f).Ok := by
  constructor
  · rintro ⟨hctx, ⟨hnodup, hqueue, htested, htimer⟩, hshows, hbar⟩
    refine ⟨⟨hnodup, htimer⟩, fun f => ⟨⟨hctx f, ?_, ?_, hshows f⟩, hbar f⟩⟩
    · exact List.contains_iff_mem.trans (hqueue f)
    · exact decide_eq_true_iff.trans (htested f)
  · rintro ⟨⟨hnodup, htimer⟩, hok⟩
    refine ⟨fun f => (hok f).sound, ⟨hnodup, fun f => ?_, fun f => ?_, htimer⟩, fun f => (hok f).shows, fun f => (hok f).bar⟩
    · exact List.contains_iff_mem.symm.trans (hok f).queued
    · exact decide_eq_true_iff.symm.trans (hok f).tested

/-- Every feeder but the one named is safe, and that one is as the view says. -/
structure State.Sees (s : State) (f : Feeder) (v : FeederView) : Prop where
  unit : s.TestUnit
  others : ∀ g, g ≠ f → (s.view g).Ok
  view : s.view f = v

section
variable {s t : State} {f : Feeder} {v : FeederView}

theorem State.FeedersSafe.sees (h : s.FeedersSafe) (f : Feeder) : s.Sees f (s.view f) :=
  ⟨(s.feedersSafe_iff.mp h).1, fun g _ => (s.feedersSafe_iff.mp h).2 g, rfl⟩

theorem State.FeedersSafe.ok (h : s.FeedersSafe) (f : Feeder) : (s.view f).Ok := (s.feedersSafe_iff.mp h).2 f

theorem State.Sees.safe (h : s.Sees f v) (hv : v.Ok) : s.FeedersSafe :=
  s.feedersSafe_iff.mpr ⟨h.unit, fun g => if hg : g = f then hg ▸ h.view ▸ hv else h.others g hg⟩

theorem State.Sees.to {w : FeederView} (h : s.Sees f v) (hw : v = w) : s.Sees f w := hw ▸ h

/-! ## Operations that touch no feeder -/

/-- The two states agree on all that the invariant reads. -/
structure State.SameFeeders (s t : State) : Prop where
  ctx : t.ctx = s.ctx := by rfl
  queue : t.lineTest.queue = s.lineTest.queue := by rfl
  tested : t.lineTest.tested = s.lineTest.tested := by rfl
  timer : t.lineTest.timer = s.lineTest.timer := by rfl
  shows : ∀ f, t.shows f = s.shows f := by exact fun _ => rfl
  barred : ∀ f, t.barred f = s.barred f := by exact fun _ => rfl

theorem State.SameFeeders.refl (s : State) : s.SameFeeders s := {}

theorem State.SameFeeders.trans {a b c : State} (h : a.SameFeeders b) (k : b.SameFeeders c) : a.SameFeeders c :=
  ⟨k.ctx.trans h.ctx, k.queue.trans h.queue, k.tested.trans h.tested, k.timer.trans h.timer,
    fun f => (k.shows f).trans (h.shows f), fun f => (k.barred f).trans (h.barred f)⟩

theorem State.SameFeeders.foldl {α : Type} {op : State → α → State} (xs : List α) (s : State)
    (h : ∀ (t : State) (x : α), t.SameFeeders (op t x)) : s.SameFeeders (xs.foldl op s) :=
  List.foldlRecOn (motive := fun t : State => s.SameFeeders t) xs op (.refl s) fun t ht x _ => ht.trans (h t x)

theorem State.SameFeeders.view (h : s.SameFeeders t) (f : Feeder) : t.view f = s.view f := by
  simp only [State.view, h.ctx, h.queue, h.tested, h.shows, h.barred]

theorem State.SameFeeders.unit (h : s.SameFeeders t) (hs : s.TestUnit) : t.TestUnit := by
  simpa only [State.TestUnit, h.queue, h.timer, h.tested] using hs

theorem State.Sees.same (h : s.Sees f v) (hst : s.SameFeeders t) : t.Sees f v :=
  ⟨hst.unit h.unit, fun g hg => hst.view g ▸ h.others g hg, (hst.view f).trans h.view⟩

theorem State.FeedersSafe.same (h : s.FeedersSafe) (hst : s.SameFeeders t) : t.FeedersSafe :=
  t.feedersSafe_iff.mpr ⟨hst.unit (s.feedersSafe_iff.mp h).1, fun g => hst.view g ▸ h.ok g⟩

theorem State.JournalOnly.sameFeeders (h : s.JournalOnly t) : s.SameFeeders t := by
  constructor <;> simp only [State.shows, State.barred, State.earthed, h.ctx, h.lineTest, h.inputs, h.sections, implies_true]

theorem State.RectifierOnly.sameFeeders (h : s.RectifierOnly t) : s.SameFeeders t := by
  constructor <;> simp only [State.shows, State.barred, State.earthed, h.ctx, h.lineTest, h.inputs, h.sections, implies_true]

theorem State.append_same (s : State) (k : Kind) (x : Subject) (d : Detail) (n : Int) : s.SameFeeders (s.append k x d n) :=
  (s.append_only k x d n).sameFeeders

theorem State.askFor_same (s : State) (f : Feeder) (x : Index → Frame) : s.SameFeeders (s.askFor f x) := by
  unfold State.askFor
  split
  · exact {}
  · exact {}

theorem State.sendTripReq_same (s : State) (f : Feeder) : s.SameFeeders (s.sendTripReq f) := by
  unfold State.sendTripReq
  split
  · exact {}
  · exact State.SameFeeders.trans (b := State.modLink (State.modLink _ _ _) _ _) {} (State.append_same _ _ _ _ _)

theorem State.recordResult_same (s : State) (f : Feeder) (x : LastResult) : s.SameFeeders (s.recordResult f x) :=
  (s.append_same _ _ _ _).trans {}

theorem State.FeedersSafe.append {k : Kind} {x : Subject} {d : Detail} {n : Int} (h : s.FeedersSafe) :
    (s.append k x d n).FeedersSafe := h.same (s.append_same k x d n)

theorem State.FeedersSafe.foldl {α : Type} {op : State → α → State} (h : s.FeedersSafe) (xs : List α)
    (hop : ∀ (t : State) (x : α), t.FeedersSafe → (op t x).FeedersSafe) : (xs.foldl op s).FeedersSafe :=
  List.foldlRecOn (motive := fun t : State => t.FeedersSafe) xs op h fun t ht x _ => hop t x ht

/-! ## The operations on a context and on the line test unit -/

theorem State.Sees.modCtx {g : Context → Context} (h : s.Sees f v) : (s.modCtx f g).Sees f { v with ctx := g v.ctx } := by
  refine ⟨h.unit, fun j hj => ?_, ?_⟩
  · have hview : (s.modCtx f g).view j = s.view j := by
      simp only [State.view, State.modCtx_get, Ne.symm hj, if_false]
      rfl
    exact hview ▸ h.others j hj
  · rw [← h.view]
    simp only [State.view, State.modCtx_get, if_true]
    rfl

theorem State.Sees.leaveQueue (h : s.Sees f v) : (s.leaveQueue f).Sees f { v with queued := false } := by
  refine ⟨⟨h.unit.1.filter _, h.unit.2⟩, fun j hj => ?_, ?_⟩
  · have hview : (s.leaveQueue f).view j = s.view j := by
      simp only [State.view, State.leaveQueue, State.modLine_lineTest, FeederView.mk.injEq]
      refine ⟨rfl, ?_, rfl, rfl, rfl⟩
      rw [Bool.eq_iff_iff, List.contains_iff_mem, List.contains_iff_mem, List.mem_filter]
      simp [hj]
    exact hview ▸ h.others j hj
  · rw [← h.view]
    simp only [State.view, State.leaveQueue, State.modLine_lineTest, FeederView.mk.injEq]
    refine ⟨rfl, ?_, rfl, rfl, rfl⟩
    rw [← Bool.not_eq_true, List.contains_iff_mem, List.mem_filter]
    simp

/-- The tested feeder leaves the unit, which is idle. -/
theorem State.Sees.freeUnit (h : s.Sees f v) (hv : v.tested = true) :
    (s.modLine fun u => { u with tested := none, timer := none }).Sees f { v with tested := false } := by
  have htested : s.lineTest.tested = some f := by
    rw [← h.view] at hv
    exact of_decide_eq_true hv
  refine ⟨⟨h.unit.1, by simp⟩, fun j hj => ?_, ?_⟩
  · have hview : (s.modLine fun u => { u with tested := none, timer := none }).view j = s.view j := by
      simp only [State.view, State.modLine_lineTest, htested, reduceCtorEq, decide_false, Option.some.injEq, Ne.symm hj]
      rfl
    exact hview ▸ h.others j hj
  · rw [← h.view]
    simp only [State.view, State.modLine_lineTest, reduceCtorEq, decide_false]
    rfl

theorem State.Sees.abortTest {a : Bool} (h : s.Sees f v) : (s.abortTest f a).Sees f { v with tested := false } := by
  unfold State.abortTest
  split
  · next htested => exact (h.freeUnit (by rw [← h.view]; exact decide_eq_true htested)).same (State.recordResult_same _ _ _)
  · next htested =>
    have hv : v.tested = false := by rw [← h.view]; exact decide_eq_false htested
    exact h.to (by rw [← hv])

/-- The feeder joins the queue, in which it does not stand. -/
theorem State.Sees.enqueue (h : s.Sees f v) (hv : v.queued = false) :
    (s.modLine fun u => { u with queue := u.queue ++ [f] }).Sees f { v with queued := true } := by
  have hmem : f ∉ s.lineTest.queue := by
    rw [← h.view] at hv
    exact fun hf => Bool.false_ne_true (hv.symm.trans (List.contains_iff_mem.mpr hf))
  refine ⟨⟨?_, h.unit.2⟩, fun j hj => ?_, ?_⟩
  · simp only [State.modLine_lineTest, List.nodup_append, h.unit.1, true_and]
    simpa using fun j hj (hjf : j = f) => hmem (hjf ▸ hj)
  · have hview : (s.modLine fun u => { u with queue := u.queue ++ [f] }).view j = s.view j := by
      simp only [State.view, State.modLine_lineTest, FeederView.mk.injEq]
      refine ⟨rfl, ?_, rfl, rfl, rfl⟩
      rw [Bool.eq_iff_iff, List.contains_iff_mem, List.contains_iff_mem]
      simp [hj]
    exact hview ▸ h.others j hj
  · rw [← h.view]
    simp only [State.view, State.modLine_lineTest, FeederView.mk.injEq]
    refine ⟨rfl, ?_, rfl, rfl, rfl⟩
    rw [List.contains_iff_mem]
    simp

/-- The head leaves the queue. -/
theorem State.FeedersSafe.dequeue {rest : List Feeder} (h : s.FeedersSafe) (hq : s.lineTest.queue = f :: rest) :
    (s.modLine fun u => { u with queue := rest }).Sees f { s.view f with queued := false } := by
  have hunit := (h.sees f).unit
  have hnodup := hunit.1
  rw [hq, List.nodup_cons] at hnodup
  refine ⟨⟨hnodup.2, hunit.2⟩, fun j hj => ?_, ?_⟩
  · have hview : (s.modLine fun u => { u with queue := rest }).view j = s.view j := by
      simp only [State.view, State.modLine_lineTest, FeederView.mk.injEq]
      refine ⟨rfl, ?_, rfl, rfl, rfl⟩
      rw [Bool.eq_iff_iff, List.contains_iff_mem, List.contains_iff_mem, hq]
      simp [hj]
    exact hview ▸ h.ok j
  · simp only [State.view, State.modLine_lineTest, FeederView.mk.injEq]
    refine ⟨rfl, ?_, rfl, rfl, rfl⟩
    rw [← Bool.not_eq_true, List.contains_iff_mem]
    exact hnodup.1

/-- The idle unit begins the test of a feeder. -/
theorem State.Sees.startUnit {n : Nat} (h : s.Sees f v) (hidle : s.lineTest.tested = none) :
    (s.modLine fun u => { u with tested := some f, timer := some n }).Sees f { v with tested := true } := by
  refine ⟨⟨h.unit.1, by simp⟩, fun j hj => ?_, ?_⟩
  · have hview : (s.modLine fun u => { u with tested := some f, timer := some n }).view j = s.view j := by
      simp only [State.view, State.modLine_lineTest, hidle, reduceCtorEq, decide_false, Option.some.injEq, Ne.symm hj]
      rfl
    exact hview ▸ h.others j hj
  · rw [← h.view]
    simp only [State.view, State.modLine_lineTest, decide_true]
    rfl

/-- The section takes another value, which may bar the feeder. -/
theorem State.Sees.modSection {g : Section → Section} (h : s.Sees f v) :
    (s.modSection f g).Sees f { v with barred := (s.modSection f g).barred f } := by
  refine ⟨h.unit, fun j hj => ?_, ?_⟩
  · have hview : (s.modSection f g).view j = s.view j := by
      simp only [State.view, State.barred, State.modSection_get, Ne.symm hj, if_false]
      rfl
    exact hview ▸ h.others j hj
  · rw [← h.view]
    rfl

theorem State.modSection_same {g : Section → Section} (hb : (g s.sections[f]).blocks = s.sections[f].blocks)
    (hp : (g s.sections[f]).peers = s.sections[f].peers) (ho : (g s.sections[f]).overflow = s.sections[f].overflow) :
    s.SameFeeders (s.modSection f g) where
  barred j := by
    simp only [State.barred, State.earthed, State.modSection_get, Section.holdsLocal, Section.holdsPeer, State.modSection_inputs]
    split
    · next hfj => subst hfj; simp only [hb, hp, ho]
    · rfl

end

end Sys2Proof.Machine
end


section
/-! PROOFS. The feeders stay safe, second part: the operations of the breaker sequencer and of the line test unit. -/

-- One text with the model: proofs elaborated side by side would need more threads than the check's memory holds.
set_option Elab.async false

namespace Sys2Proof.Machine

section
variable {s t : State} {f : Feeder} {v : FeederView}

/-! ## What the states of a context say -/

/-- No timer of a close or of a reclose state, no lockout, and no place with the line test unit. -/
structure FeederView.Free (v : FeederView) : Prop where
  lock : v.ctx.lock = none
  wait : v.ctx.wait = none
  deadTimer : v.ctx.deadTimer = none
  queued : v.queued = false
  tested : v.tested = false

theorem FeederView.Core.queued_false (h : v.Core) (hs : v.ctx.state ≠ .queued) : v.queued = false :=
  Bool.eq_false_iff.mpr fun hq => hs (h.queued.mp hq)

theorem FeederView.Core.tested_false (h : v.Core) (hs : v.ctx.state ≠ .testing) : v.tested = false :=
  Bool.eq_false_iff.mpr fun hq => hs (h.tested.mp hq)

theorem FeederView.Core.shows_false (h : v.Core) (hs : ¬ (v.ctx.state = .closed ∨ v.ctx.state = .tripping ∨ v.ctx.state = .stuck)) :
    v.shows = false := Bool.eq_false_iff.mpr fun hq => hs (h.shows.mp hq)

theorem Option.isSome_iff_none {α : Type} {o : Option α} {p : Prop} (h : o.isSome = true ↔ p) (hp : ¬ p) : o = none := by
  rw [← h, Option.isSome_iff_ne_none, not_not] at hp
  exact hp

theorem Context.Sound.lock_none {c : Context} (h : c.Sound) (hs : c.state ≠ .locked) : c.lock = none :=
  Option.isSome_iff_none h.1 hs

theorem Context.Sound.disp_none {c : Context} (h : c.Sound) (hs : ¬ (c.state = .tripping ∨ c.state = .stuck)) : c.disp = none :=
  Option.isSome_iff_none h.2.1 hs

theorem Context.Sound.wait_none {c : Context} (h : c.Sound) (hs : c.state ≠ .deadTime) : c.wait = none :=
  Option.isSome_iff_none h.2.2.1 hs

theorem Context.Sound.deadTimer_none {c : Context} (h : c.Sound) (hs : c.state ≠ .deadTime) : c.deadTimer = none :=
  Option.isSome_iff_none h.2.2.2.1 fun hd => hs hd.1

/-- A CLOSED or CLOSING feeder is free to trip. -/
theorem FeederView.Core.free (h : v.Core) (hs : v.ctx.state = .closed ∨ v.ctx.state = .closing) : v.Free where
  lock := h.sound.lock_none (by rintro heq; simp [heq] at hs)
  wait := h.sound.wait_none (by rintro heq; simp [heq] at hs)
  deadTimer := h.sound.deadTimer_none (by rintro heq; simp [heq] at hs)
  queued := h.queued_false (by rintro heq; simp [heq] at hs)
  tested := h.tested_false (by rintro heq; simp [heq] at hs)

/-- A view is safe in a state outside the line test unit, with a breaker that shows as the state says. -/
theorem FeederView.ok_of {c : Context} {q x sh b : Bool} (hs : c.Sound) (hq : q = false) (hx : x = false)
    (hstate : c.state ≠ .queued ∧ c.state ≠ .testing)
    (hsh : sh = true ↔ c.state = .closed ∨ c.state = .tripping ∨ c.state = .stuck)
    (hb : b = true → c.state = .opened ∨ c.state = .locked ∨ c.state = .tripping ∨ c.state = .stuck) :
    FeederView.Ok ⟨c, q, x, sh, b⟩ where
  sound := hs
  queued := by simp [hq, hstate.1]
  tested := by simp [hx, hstate.2]
  shows := hsh
  bar := hb

/-! ## Lockout, opens and cancellations (05 R83, R87) -/

/-- The context of a locked feeder (05 R87). -/
def Context.toLocked (c : Context) (cause : LockCause) : Context :=
  { c with
    state := .locked, lock := some cause, disp := none, auto := false, wait := none
    tripTimer := none, closeTimer := none, deadTimer := none, reclaimTimer := none, followTimer := none }

theorem State.Sees.enterLocked {cause : LockCause} (h : s.Sees f v) :
    (s.enterLocked f cause).Sees f { v with ctx := v.ctx.toLocked cause, queued := false, tested := false } := by
  have hlog : ((((s.modCtx f fun c => c.toLocked cause).leaveQueue f).abortTest f s.ctx[f].auto).append .lockout (.feeder f)
      (.lockCause cause) s.ctx[f].count).Sees f { v with ctx := v.ctx.toLocked cause, queued := false, tested := false } :=
    (h.modCtx.leaveQueue.abortTest).same (State.append_same _ _ _ _ _)
  unfold State.enterLocked
  extract_lets t u
  split
  · exact hlog.same (State.askFor_same _ _ _)
  · exact hlog

/-- A feeder whose breaker shows open is safe when it is LOCKED. -/
theorem State.Sees.locked_safe {cause : LockCause} (h : s.Sees f v) (hv : v.shows = false) : (s.enterLocked f cause).FeedersSafe :=
  h.enterLocked.safe (FeederView.ok_of (by simp [Context.Sound, Context.toLocked]) rfl rfl (by simp [Context.toLocked])
    (by simp [hv, Context.toLocked]) (by simp [Context.toLocked]))

theorem Context.sound_toOpened {c : Context} (h : c.lock = none) : c.toOpened.Sound := by
  simp [Context.Sound, Context.toOpened, h]

/-- An OPEN feeder outside the line test unit is safe. -/
theorem FeederView.ok_toOpened (hl : v.ctx.lock = none) (hv : v.shows = false) {q x : Bool} (hq : q = false) (hx : x = false) :
    FeederView.Ok { v with ctx := v.ctx.toOpened, queued := q, tested := x } :=
  FeederView.ok_of (Context.sound_toOpened hl) hq hx (by simp [Context.toOpened]) (by simp [hv, Context.toOpened])
    (by simp [Context.toOpened])

theorem State.Sees.opened_safe (h : s.Sees f v) (hfree : v.Free) (hv : v.shows = false) : (s.modCtx f Context.toOpened).FeedersSafe :=
  h.modCtx.safe (FeederView.ok_toOpened hfree.lock hv hfree.queued hfree.tested)

theorem State.Sees.cancelTo_safe {d : Detail} (h : s.Sees f v) (hl : v.ctx.lock = none) (hv : v.shows = false) :
    (s.cancelTo f d).FeedersSafe := by
  unfold State.cancelTo
  exact ((h.modCtx.leaveQueue.same (State.append_same _ _ _ _ _)).abortTest).safe (FeederView.ok_toOpened hl hv rfl rfl)

/-! ## Trips (05 R82 to R85) -/

/-- A trip whose breaker shows open ends as its disposition says (05 R85). -/
theorem State.Sees.applyDisposition_safe {d : Disposition} (h : s.Sees f v) (hfree : v.Free) (hv : v.shows = false)
    (hclose : v.ctx.closeTimer = none) (htrip : v.ctx.tripTimer = none) (hreclaim : v.ctx.reclaimTimer = none) :
    (s.applyDisposition f d).FeedersSafe := by
  have hbar : s.barred f = v.barred := by rw [← h.view]; rfl
  unfold State.applyDisposition
  split
  · exact h.opened_safe hfree hv
  · next heq =>
    refine h.modCtx.safe (FeederView.ok_of ?_ hfree.queued hfree.tested (by simp [Context.toDeadTime]) (by simp [hv, Context.toDeadTime]) ?_)
    · simp [Context.Sound, Context.toDeadTime, hfree.lock, hclose, htrip, hreclaim]
    · intro hb
      cases d <;> simp_all [Disposition.recloses]
  · next heq =>
    refine h.modCtx.safe (FeederView.ok_of ?_ hfree.queued hfree.tested (by simp [Context.toDeadTime]) (by simp [hv, Context.toDeadTime]) ?_)
    · simp [Context.Sound, Context.toDeadTime, hfree.lock, hclose, htrip, hreclaim]
    · intro hb
      cases d <;> simp_all [Disposition.recloses]
  · next heq =>
    split
    · refine h.modCtx.safe (FeederView.ok_of ?_ hfree.queued hfree.tested (by simp [Context.toWaitPeer]) (by simp [hv, Context.toWaitPeer]) ?_)
      · simp [Context.Sound, Context.toWaitPeer, hfree.lock, hclose, htrip, hreclaim]
      · intro hb
        cases d <;> simp_all [Disposition.recloses]
    split
    · exact h.locked_safe hv
    · exact h.locked_safe hv
  · exact h.locked_safe hv

theorem State.Sees.completeTrip_safe (h : s.Sees f v) (hfree : v.Free) (hv : v.shows = false) (hclose : v.ctx.closeTimer = none)
    (hreclaim : v.ctx.reclaimTimer = none) : (s.completeTrip f).FeedersSafe := by
  unfold State.completeTrip
  exact (h.modCtx.same (State.append_same _ _ _ _ _)).applyDisposition_safe
    ⟨hfree.lock, hfree.wait, hfree.deadTimer, hfree.queued, hfree.tested⟩ hv hclose rfl hreclaim

/-- The context of a trip that has begun (05 R82). -/
def Context.toTripping (c : Context) (cause : TripCause) (d : Disposition) (timer follow : Option Nat) : Context :=
  { c with
    state := .tripping, lastTrip := some cause, disp := some d, closeTimer := none, reclaimTimer := none
    tripTimer := timer, followTimer := follow }

/-- A trip that has begun, with its entries; where the breaker shows open it is completed at once (05 R82, R84). -/
theorem State.Sees.trip_begun (h : s.Sees f v) (cause : TripCause) (d : Disposition) (n : Int) (b : Byte) :
    ∃ w : State, s.trip f cause d n b = (if s.shows f then w else w.completeTrip f) ∧
      w.Sees f { v with ctx := (v.ctx.toTripping cause d (if s.shows f then some (msTicks (s.g .tripTimeMax)) else none)
        (if d = .follow then some (secTicks (s.settings.f f .followWait)) else none)) } := by
  unfold State.trip
  extract_lets t u w
  refine ⟨w, rfl, ?_⟩
  have ht : t.Sees f { v with ctx := (v.ctx.toTripping cause d (if s.shows f then some (msTicks (s.g .tripTimeMax)) else none)
      (if d = .follow then some (secTicks (s.settings.f f .followWait)) else none)) } := h.modCtx
  have htu : t.SameFeeders u := (State.tripEntry_only _ _ _ _ _).sameFeeders
  refine ht.same ?_
  unfold w
  split
  · exact htu.trans (State.sendTripReq_same _ _)
  · exact htu

theorem State.Sees.state (h : s.Sees f v) : s.fstate f = v.ctx.state := by rw [← h.view]; rfl

theorem State.Sees.shows_eq (h : s.Sees f v) : s.shows f = v.shows := by rw [← h.view]; rfl

theorem Context.sound_toTripping {c : Context} {cause : TripCause} {d : Disposition} {n m : Nat} (hl : c.lock = none)
    (hw : c.wait = none) (hd : c.deadTimer = none) :
    (c.toTripping cause d (some n) (if d = .follow then some m else none)).Sound := by
  by_cases hf : d = .follow <;> simp [Context.Sound, Context.toTripping, hl, hw, hd, hf]

/-- A trip of a feeder that is free to trip: TRIPPING, or the end of the trip where the breaker shows open. -/
theorem State.Sees.trip_safe {cause : TripCause} {d : Disposition} {n : Int} {b : Byte} (h : s.Sees f v) (hfree : v.Free) :
    (s.trip f cause d n b).FeedersSafe := by
  obtain ⟨w, heq, hw⟩ := h.trip_begun cause d n b
  rw [heq]
  split
  · next hclosed =>
    rw [if_pos hclosed] at hw
    exact hw.safe (FeederView.ok_of (Context.sound_toTripping hfree.lock hfree.wait hfree.deadTimer) hfree.queued hfree.tested
      (by simp [Context.toTripping]) (by simp [← h.shows_eq, hclosed, Context.toTripping]) (by simp [Context.toTripping]))
  · next hopen =>
    exact hw.completeTrip_safe ⟨hfree.lock, hfree.wait, hfree.deadTimer, hfree.queued, hfree.tested⟩
      (by rw [← h.shows_eq]; exact Bool.not_eq_true _ ▸ hopen) rfl rfl

/-- The states in which a barred feeder may stand. -/
def FeederState.parked (x : FeederState) : Prop := x = .opened ∨ x = .locked ∨ x = .tripping ∨ x = .stuck

theorem State.applyDisposition_opened (s : State) (f : Feeder) : s.applyDisposition f .opened = s.modCtx f Context.toOpened := by
  simp [State.applyDisposition, Disposition.recloses]

theorem State.Sees.trip_parks {cause : TripCause} {n : Int} {b : Byte} (h : s.Sees f v) :
    ((s.trip f cause .opened n b).fstate f).parked := by
  obtain ⟨w, heq, hw⟩ := h.trip_begun cause .opened n b
  rw [heq]
  split
  · rw [hw.state]
    exact .inr (.inr (.inl rfl))
  · have hdisp : w.ctx[f].disp = some .opened := congrArg (fun x => x.ctx.disp) hw.view
    unfold State.completeTrip
    rw [hdisp, Option.getD_some, State.applyDisposition_opened]
    left
    simp only [State.fstate, State.modCtx_get, if_true]
    rfl

theorem State.cancelTo_parks (s : State) (f : Feeder) (d : Detail) : ((s.cancelTo f d).fstate f).parked := by
  left
  unfold State.cancelTo State.abortTest
  have hopened : ((((s.modCtx f Context.toOpened).leaveQueue f).append .opened (.feeder f) d s.ctx[f].count).fstate f) = .opened := by
    simp only [State.fstate, (State.append_only _ _ _ _ _).ctx]
    show (s.modCtx f Context.toOpened).ctx[f].state = .opened
    rw [State.modCtx_get, if_pos rfl]
    rfl
  split
  · rw [← hopened]
    simp only [State.fstate, (State.recordResult_same _ _ _).ctx]
    rfl
  · exact hopened

/-! ## Operations by the state of the feeder -/

theorem State.FeedersSafe.tripRequest {cause : TripCause} {d : Disposition} {n : Int} {b : Byte} (h : s.FeedersSafe) :
    (s.tripRequest f cause d n b).FeedersSafe := by
  unfold State.tripRequest
  split
  · next hclosed => exact (h.sees f).trip_safe ((h.ok f).free (.inl hclosed))
  · exact h

theorem State.FeedersSafe.protectionTrip {cause : TripCause} {n : Int} {b : Byte} {k : Nat} (h : s.FeedersSafe) :
    (s.protectionTrip f cause n b k).FeedersSafe := h.tripRequest

theorem FeederView.Core.opens_safe (hv : v.Core) (hs : v.ctx.state ≠ .locked)
    (hsh : ¬ (v.ctx.state = .closed ∨ v.ctx.state = .tripping ∨ v.ctx.state = .stuck)) :
    v.ctx.lock = none ∧ v.shows = false := ⟨hv.sound.lock_none hs, hv.shows_false hsh⟩

theorem State.Sees.cancelTo_of {d : Detail} (h : s.Sees f v) (hv : v.Core)
    (hs : v.ctx.state = .deadTime ∨ v.ctx.state = .queued ∨ v.ctx.state = .testing ∨ v.ctx.state = .waitPeer) :
    (s.cancelTo f d).FeedersSafe := by
  refine h.cancelTo_safe (hv.sound.lock_none ?_) (hv.shows_false ?_) <;>
    rcases hs with hs | hs | hs | hs <;> simp [hs]

theorem FeederView.Core.ok_of_barred (hv : v.Core)
    (hs : v.ctx.state = .opened ∨ v.ctx.state = .locked ∨ v.ctx.state = .tripping ∨ v.ctx.state = .stuck) : v.Ok :=
  ⟨hv, fun _ => hs⟩

theorem State.Sees.commandedOpen_safe {cause : TripCause} (h : s.Sees f v) (hv : v.Core) : (s.commandedOpen f cause).FeedersSafe := by
  unfold State.commandedOpen
  split
  case h_1 heq => exact h.trip_safe (hv.free (.inl (h.state.symm.trans heq)))
  case h_2 heq => exact h.trip_safe (hv.free (.inr (h.state.symm.trans heq)))
  case h_3 heq => exact h.cancelTo_of hv (.inl (h.state.symm.trans heq))
  case h_4 heq => exact h.cancelTo_of hv (.inr (.inl (h.state.symm.trans heq)))
  case h_5 heq => exact h.cancelTo_of hv (.inr (.inr (.inl (h.state.symm.trans heq))))
  case h_6 heq => exact h.cancelTo_of hv (.inr (.inr (.inr (h.state.symm.trans heq))))
  case h_7 heq => exact h.safe (hv.ok_of_barred (.inl (h.state.symm.trans heq)))
  case h_8 heq => exact h.safe (hv.ok_of_barred (.inr (.inl (h.state.symm.trans heq))))
  case h_9 heq => exact h.safe (hv.ok_of_barred (.inr (.inr (.inl (h.state.symm.trans heq)))))
  case h_10 heq => exact h.safe (hv.ok_of_barred (.inr (.inr (.inr (h.state.symm.trans heq)))))

/-- A bar that takes force leaves no close under way: the feeder opens, or what it waited for is cancelled (07 R121). -/
theorem State.Sees.barFeeder_safe {cause : TripCause} (h : s.Sees f v) (hv : v.Core) : (s.barFeeder f cause).FeedersSafe := by
  unfold State.barFeeder
  split
  · exact h.commandedOpen_safe hv
  · exact h.commandedOpen_safe hv
  · next hnc hncl =>
    unfold State.cancel
    split
    case h_1 heq => exact h.cancelTo_of hv (.inl (h.state.symm.trans heq))
    case h_2 heq => exact h.cancelTo_of hv (.inr (.inl (h.state.symm.trans heq)))
    case h_3 heq => exact h.cancelTo_of hv (.inr (.inr (.inl (h.state.symm.trans heq))))
    case h_4 heq => exact h.cancelTo_of hv (.inr (.inr (.inr (h.state.symm.trans heq))))
    case h_5 heq => exact absurd heq hnc
    case h_6 heq => exact absurd heq hncl
    case h_7 heq => exact h.safe (hv.ok_of_barred (.inl (h.state.symm.trans heq)))
    case h_8 heq => exact h.safe (hv.ok_of_barred (.inr (.inl (h.state.symm.trans heq))))
    case h_9 heq => exact h.safe (hv.ok_of_barred (.inr (.inr (.inl (h.state.symm.trans heq)))))
    case h_10 heq => exact h.safe (hv.ok_of_barred (.inr (.inr (.inr (h.state.symm.trans heq)))))

/-- After it the feeder stands where a barred feeder may. -/
theorem State.Sees.barFeeder_parks {cause : TripCause} (h : s.Sees f v) : ((s.barFeeder f cause).fstate f).parked := by
  unfold State.barFeeder State.commandedOpen
  split
  · next heq => rw [heq]; exact h.trip_parks
  · next heq => rw [heq]; exact h.trip_parks
  · next hnc hncl =>
    unfold State.cancel
    split
    case h_5 heq => exact absurd heq hnc
    case h_6 heq => exact absurd heq hncl
    case h_7 heq => exact .inl heq
    case h_8 heq => exact .inr (.inl heq)
    case h_9 heq => exact .inr (.inr (.inl heq))
    case h_10 heq => exact .inr (.inr (.inr heq))
    all_goals exact s.cancelTo_parks f _

/-! ## Failed attempts and closes (05 R91, R93) -/

/-- A feeder whose breaker is open, in no lockout and in no trip, outside the line test unit. -/
structure FeederView.Dormant (v : FeederView) : Prop where
  lock : v.ctx.lock = none
  disp : v.ctx.disp = none
  tripTimer : v.ctx.tripTimer = none
  reclaimTimer : v.ctx.reclaimTimer = none
  shows : v.shows = false
  queued : v.queued = false
  tested : v.tested = false

theorem Option.none_of_imp {α : Type} {o : Option α} {p : Prop} (h : o.isSome = true → p) (hp : ¬ p) : o = none :=
  Option.not_isSome_iff_eq_none.mp fun ho => hp (h ho)

theorem FeederView.Core.dormant (h : v.Core)
    (hs : v.ctx.state = .opened ∨ v.ctx.state = .deadTime ∨ v.ctx.state = .queued ∨ v.ctx.state = .testing ∨ v.ctx.state = .waitPeer
      ∨ v.ctx.state = .closing) : FeederView.Dormant { v with queued := false, tested := false } where
  lock := h.sound.lock_none (by rintro heq; simp [heq] at hs)
  disp := h.sound.disp_none (by rintro (heq | heq) <;> simp [heq] at hs)
  tripTimer := Option.isSome_iff_none h.sound.2.2.2.2.1 (by rintro heq; simp [heq] at hs)
  reclaimTimer := Option.none_of_imp h.sound.2.2.2.2.2.2.1 (by rintro heq; simp [heq] at hs)
  shows := h.shows_false (by rintro (heq | heq | heq) <;> simp [heq] at hs)
  queued := rfl
  tested := rfl

/-- The same where the feeder is not with the line test unit. -/
theorem FeederView.Core.dormant_away (h : v.Core)
    (hs : v.ctx.state = .opened ∨ v.ctx.state = .deadTime ∨ v.ctx.state = .waitPeer ∨ v.ctx.state = .closing) : v.Dormant := by
  have hd := h.dormant (by tauto)
  have hq := h.queued_false (by rintro heq; simp [heq] at hs)
  have hx := h.tested_false (by rintro heq; simp [heq] at hs)
  exact ⟨hd.lock, hd.disp, hd.tripTimer, hd.reclaimTimer, hd.shows, hq, hx⟩

/-- No close is under way on a barred section. -/
theorem FeederView.Ok.barred_false (h : v.Ok)
    (hs : v.ctx.state = .deadTime ∨ v.ctx.state = .queued ∨ v.ctx.state = .testing ∨ v.ctx.state = .waitPeer ∨ v.ctx.state = .closing
      ∨ v.ctx.state = .closed) : v.barred = false := by
  refine Bool.eq_false_iff.mpr fun hb => ?_
  rcases h.bar hb with heq | heq | heq | heq <;> simp [heq] at hs

theorem State.interlock_pass {a : Bool} (h : s.interlock f a = .pass) : s.barred f = false := by
  unfold State.interlock at h
  unfold State.barred
  split at h
  · cases h
  split at h
  · cases h
  split at h
  · cases h
  · simp_all

theorem State.Sees.barred_of_pass {a : Bool} (h : s.Sees f v) (hi : s.interlock f a = .pass) : v.barred = false := by
  rw [← h.view]
  exact State.interlock_pass hi

theorem State.Sees.interlockFails_safe (h : s.Sees f v) (hd : v.Dormant) : (s.interlockFails f).FeedersSafe :=
  (h.modCtx.same (State.append_same _ _ _ _ _)).safe (FeederView.ok_toOpened hd.lock hd.shows hd.queued hd.tested)

theorem State.Sees.toOpened_safe (h : s.Sees f v) (hd : v.Dormant) : (s.modCtx f Context.toOpened).FeedersSafe :=
  h.modCtx.safe (FeederView.ok_toOpened hd.lock hd.shows hd.queued hd.tested)

theorem State.Sees.enterClosing_safe (h : s.Sees f v) (hd : v.Dormant) (hdead : v.ctx.deadTimer = none) (hb : v.barred = false) :
    (s.enterClosing f).FeedersSafe := by
  refine h.modCtx.safe (FeederView.ok_of ?_ hd.queued hd.tested (by simp) (by simp [hd.shows]) (by simp [hb]))
  simp [Context.Sound, hd.lock, hd.disp, hd.tripTimer, hd.reclaimTimer, hdead]

theorem State.Sees.failedAttempt_safe {d : Detail} (h : s.Sees f v) (hd : v.Dormant) (hb : v.barred = false) :
    (s.failedAttempt f d).FeedersSafe := by
  unfold State.failedAttempt
  extract_lets n t
  have ht : t.Sees f { v with ctx := { v.ctx with count := n + 1 } } := h.modCtx.same (State.append_same _ _ _ _ _)
  split
  · exact (h.same (State.append_same _ _ _ _ _)).locked_safe hd.shows
  split
  · exact ht.locked_safe hd.shows
  split
  · refine ht.modCtx.safe (FeederView.ok_of ?_ hd.queued hd.tested (by simp [Context.toWaitPeer]) (by simp [hd.shows, Context.toWaitPeer]) (by simp [hb]))
    simp [Context.Sound, Context.toWaitPeer, hd.lock, hd.tripTimer, hd.reclaimTimer]
  · refine ht.modCtx.safe (FeederView.ok_of ?_ hd.queued hd.tested (by simp [Context.toDeadTime]) (by simp [hd.shows, Context.toDeadTime]) (by simp [hb]))
    simp [Context.Sound, Context.toDeadTime, hd.lock, hd.tripTimer, hd.reclaimTimer]

theorem State.Sees.joinQueue_safe {a : Bool} (h : s.Sees f v) (hd : v.Dormant) (hclose : v.ctx.closeTimer = none)
    (hfollow : v.ctx.followTimer = none) (hb : v.barred = false) : (s.joinQueue f a).FeedersSafe := by
  refine (h.modCtx.enqueue hd.queued).safe ⟨⟨?_, by simp, by simp [hd.tested], by simp [hd.shows]⟩, by simp [hb]⟩
  simp [Context.Sound, hd.lock, hd.disp, hd.tripTimer, hd.reclaimTimer, hclose, hfollow]

/-- The end of a dead time whose timer has been stopped. -/
theorem State.Sees.deadTimeEnd_safe (h : s.Sees f v) (hd : v.Dormant) (hclose : v.ctx.closeTimer = none)
    (hfollow : v.ctx.followTimer = none) : (s.deadTimeEnd f).FeedersSafe := by
  unfold State.deadTimeEnd
  split
  · next hi => exact h.joinQueue_safe hd hclose hfollow (h.barred_of_pass hi)
  · exact h.interlockFails_safe hd

theorem Context.Sound.closeTimer_none {c : Context} (h : c.Sound) (hs : c.state ≠ .closing) : c.closeTimer = none :=
  Option.isSome_iff_none h.2.2.2.2.2.1 hs

theorem Context.Sound.followTimer_none {c : Context} (h : c.Sound) (hs : c.state ≠ .waitPeer) (ht : c.state ≠ .tripping) :
    c.followTimer = none :=
  Option.none_of_imp h.2.2.2.2.2.2.2.2 fun hf => hf.elim hs fun hp => ht hp.1

theorem State.FeedersSafe.coolNotice (h : s.FeedersSafe) : (s.coolNotice f).FeedersSafe := by
  unfold State.coolNotice
  split
  · next hdead =>
    have hstate : (s.view f).ctx.state = .deadTime := hdead.1
    exact (h.sees f).deadTimeEnd_safe ((h.ok f).dormant_away (by simp [hstate]))
      ((h.ok f).sound.closeTimer_none (by simp [hstate])) ((h.ok f).sound.followTimer_none (by simp [hstate]) (by simp [hstate]))
  · exact h

/-! ## Lockout demands and EOFF (05 R99, R100) -/

theorem State.FeedersSafe.shows_false (h : s.FeedersSafe)
    (hs : ¬ (s.fstate f = .closed ∨ s.fstate f = .tripping ∨ s.fstate f = .stuck)) : (s.view f).shows = false :=
  (h.ok f).shows_false hs

/-- A trip under way takes a lockout disposition. -/
theorem State.FeedersSafe.relock {cause : LockCause} (h : s.FeedersSafe) (hs : s.fstate f = .tripping) :
    (s.modCtx f fun c => { c with disp := some (.locked cause), followTimer := none }).FeedersSafe := by
  have hok := h.ok f
  have hstate : s.ctx[f].state = .tripping := hs
  refine (h.sees f).modCtx.safe ⟨⟨?_, hok.queued, hok.tested, hok.shows⟩, hok.bar⟩
  obtain ⟨hlock, -, hwait, hdead, htrip, hclose, hreclaim, hauto, -⟩ := hok.sound
  exact ⟨hlock, ⟨fun _ => .inl hstate, fun _ => rfl⟩, hwait, hdead, htrip, hclose, hreclaim, hauto, by simp⟩

theorem State.FeedersSafe.lockoutDemand {cause : LockCause} (h : s.FeedersSafe) : (s.lockoutDemand f cause).FeedersSafe := by
  unfold State.lockoutDemand
  split
  case h_1 heq | h_2 heq | h_3 heq | h_4 heq =>
    split
    · exact (h.sees f).locked_safe (h.shows_false (by simp [heq]))
    · exact h
  case h_5 heq => exact (h.sees f).locked_safe (h.shows_false (by simp [heq]))
  case h_6 heq =>
    split
    · exact h
    split
    · exact h.relock heq
    · exact h
  all_goals exact h

theorem State.FeedersSafe.eoffFeeder (h : s.FeedersSafe) : (s.eoffFeeder f).FeedersSafe := by
  unfold State.eoffFeeder
  split
  case h_1 heq => exact (h.sees f).trip_safe ((h.ok f).free (.inl heq))
  case h_2 heq => exact (h.sees f).trip_safe ((h.ok f).free (.inr heq))
  case h_3 heq | h_4 heq | h_5 heq | h_6 heq => exact (h.sees f).locked_safe (h.shows_false (by simp [heq]))
  case h_7 heq => exact h.relock heq
  all_goals exact h

/-! ## The line test unit (06) -/

theorem State.Sees.lineFails_safe (h : s.Sees f v) (hd : v.Dormant) (hb : v.barred = false) : (s.lineFails f).FeedersSafe := by
  unfold State.lineFails
  split
  · exact h.failedAttempt_safe hd hb
  · exact h.toOpened_safe hd

theorem State.Sees.beginTest_safe (h : s.Sees f v) (hs : v.ctx.Sound) (hstate : v.ctx.state = .queued) (hd : v.Dormant)
    (hb : v.barred = false) (hidle : s.lineTest.tested = none) : (s.beginTest f).FeedersSafe := by
  refine (h.modCtx.startUnit hidle).safe ⟨⟨?_, by simp [hd.queued], by simp, by simp [hd.shows]⟩, by simp [hb]⟩
  have hwait := hs.wait_none (by simp [hstate])
  have hdead := hs.deadTimer_none (by simp [hstate])
  have hclose := hs.closeTimer_none (by simp [hstate])
  have hfollow := hs.followTimer_none (by simp [hstate]) (by simp [hstate])
  simp [Context.Sound, hd.lock, hd.disp, hd.tripTimer, hd.reclaimTimer, hwait, hdead, hclose, hfollow]

/-- A head taken from the queue closes, begins its test, or goes back (06 R105 to R108). -/
theorem State.Sees.takeHead_safe (h : s.Sees f v) (hs : v.ctx.Sound) (hstate : v.ctx.state = .queued) (hd : v.Dormant)
    (hidle : s.lineTest.tested = none) : (s.takeHead f).FeedersSafe := by
  have hdead := hs.deadTimer_none (by simp [hstate])
  unfold State.takeHead
  extract_lets auto vBus vLine
  split
  · exact h.interlockFails_safe hd
  next hi =>
  have hb := h.barred_of_pass (Decidable.not_not.mp hi)
  split
  · exact (h.same (State.recordResult_same _ _ _)).lineFails_safe hd hb
  split
  · exact (h.same (State.recordResult_same _ _ _)).lineFails_safe hd hb
  split
  · exact (h.same (State.recordResult_same _ _ _)).enterClosing_safe hd hdead hb
  · exact h.beginTest_safe hs hstate hd hb hidle

theorem State.FeedersSafe.takeHeads (h : s.FeedersSafe) (n : Nat) : (s.takeHeads n).FeedersSafe := by
  induction n generalizing s with
  | zero => exact h
  | succ n ih =>
    unfold State.takeHeads
    split
    · exact h
    next hidle =>
    split
    · exact h
    · next f rest hq =>
      have hqueued : (s.view f).ctx.state = .queued :=
        (h.ok f).queued.mp (List.contains_iff_mem.mpr (by rw [hq]; exact List.mem_cons_self))
      have htested := (h.ok f).tested_false (by simp [hqueued])
      have hd : FeederView.Dormant { s.view f with queued := false } :=
        { (h.ok f).dormant (by simp [hqueued]) with tested := htested }
      exact ih ((h.dequeue hq).takeHead_safe (h.ok f).sound hqueued hd (Option.not_isSome_iff_eq_none.mp hidle))

theorem State.FeedersSafe.settle (h : s.FeedersSafe) : s.settle.FeedersSafe := h.takeHeads _

theorem State.FeedersSafe.endTest (h : s.FeedersSafe) (hf : s.lineTest.tested = some f) : (s.endTest f).FeedersSafe := by
  have hok := h.ok f
  have htested : (s.view f).tested = true := decide_eq_true hf
  have hstate := hok.tested.mp htested
  have hd : FeederView.Dormant { s.view f with tested := false } :=
    { hok.dormant (by simp [hstate]) with queued := hok.queued_false (by simp [hstate]) }
  have hb := hok.barred_false (by simp [hstate])
  have hdead := hok.sound.deadTimer_none (by simp [hstate])
  unfold State.endTest
  extract_lets auto vBus vLine
  split
  next result value heq =>
  extract_lets t
  have ht : t.Sees f { s.view f with tested := false } :=
    ((h.sees f).freeUnit htested).same (State.recordResult_same _ _ _)
  split
  · split
    · exact ht.enterClosing_safe hd hdead hb
    · exact ht.interlockFails_safe hd
  · exact ht.lineFails_safe hd hb

theorem State.Sees.undoReclose (h : s.Sees f v) : (s.undoReclose f).Sees f
    { v with ctx := { v.ctx with deadTimer := none, followTimer := none, wait := none }, queued := false, tested := false } :=
  h.modCtx.leaveQueue.abortTest

end

end Sys2Proof.Machine
end


section
/-! PROOFS. The feeders stay safe, third part: the discriminator, the section table, the links and the inputs. -/

-- One text with the model: proofs elaborated side by side would need more threads than the check's memory holds.
set_option Elab.async false

namespace Sys2Proof.Machine

section
variable {s t before : State} {f : Feeder} {l : Link} {i : Index} {v : FeederView}

theorem State.FeedersSafe.ite {c : Prop} [Decidable c] (hs : s.FeedersSafe) (ht : t.FeedersSafe) : (if c then s else t).FeedersSafe := by
  split
  · exact hs
  · exact ht

/-! ## Operations outside the feeders -/

theorem State.FeedersSafe.journal (h : s.FeedersSafe) (hst : s.JournalOnly t) : t.FeedersSafe := h.same hst.sameFeeders

theorem State.FeedersSafe.rectifier (h : s.FeedersSafe) (hst : s.RectifierOnly t) : t.FeedersSafe := h.same hst.sameFeeders

theorem State.FeedersSafe.onset {b : Latch} (h : s.FeedersSafe) : (s.onset b).FeedersSafe := h.journal (s.onset_only b)

theorem State.FeedersSafe.onsetIf {c : Bool} {b : Latch} (h : s.FeedersSafe) : (s.onsetIf c b).FeedersSafe := h.journal (s.onsetIf_only c b)

theorem State.FeedersSafe.modRect {g : Rectifier → Rectifier} (h : s.FeedersSafe) : (s.modRect g).FeedersSafe := h.same {}

theorem State.FeedersSafe.modSample {g : SampleUnit → SampleUnit} (h : s.FeedersSafe) : (s.modSample g).FeedersSafe := h.same {}

theorem State.FeedersSafe.modTracker {g : Tracker → Tracker} (h : s.FeedersSafe) : (s.modTracker g).FeedersSafe := h.same {}

theorem State.FeedersSafe.modDisc {g : Disc → Disc} (h : s.FeedersSafe) : (s.modDisc f g).FeedersSafe := h.same {}

theorem State.FeedersSafe.modTrips {g : TripQueue → TripQueue} (h : s.FeedersSafe) : (s.modTrips g).FeedersSafe := h.same {}

theorem State.FeedersSafe.modLink {g : LinkUnit → LinkUnit} (h : s.FeedersSafe) : (s.modLink l g).FeedersSafe := h.same {}

theorem State.FeedersSafe.modIndex {g : IndexUnit → IndexUnit} (h : s.FeedersSafe) : (s.modIndex l i g).FeedersSafe := h.same {}

theorem State.FeedersSafe.ask {x : Frame} (h : s.FeedersSafe) : (s.ask l x).FeedersSafe := h.modLink

theorem State.FeedersSafe.askFor {x : Index → Frame} (h : s.FeedersSafe) : (s.askFor f x).FeedersSafe := h.same (s.askFor_same f x)

theorem State.FeedersSafe.modReader {p : Port} {g : Reader → Reader} (h : s.FeedersSafe) : (s.modReader p g).FeedersSafe := h.same {}

theorem State.FeedersSafe.modPort {p : Port} {g : PortUnit → PortUnit} (h : s.FeedersSafe) : (s.modPort p g).FeedersSafe := h.same {}

theorem State.FeedersSafe.retire (h : s.FeedersSafe) : s.retire.FeedersSafe := h.journal s.retire_only

/-! ## The discriminator (04) -/

theorem State.FeedersSafe.handOver {c : Option (TripCause × Int)} (h : s.FeedersSafe) : (s.handOver before f c).FeedersSafe := by
  unfold State.handOver
  split
  · exact h.modTrips
  · exact h

theorem State.FeedersSafe.evaluate {a : Bool} (h : s.FeedersSafe) : (s.evaluate f a).FeedersSafe := by
  unfold State.evaluate
  extract_lets e t
  have ht : t.FeedersSafe := h.modDisc.journal (State.evalEntries_only _ _ _)
  exact (ht.coolNotice.ite ht).handOver

theorem State.FeedersSafe.discriminate {a : Bool} (h : s.FeedersSafe) : (s.discriminate a).FeedersSafe :=
  h.foldl feeders fun _ _ ht => ht.evaluate

theorem State.FeedersSafe.takeTrip {r : TripCall} (h : s.FeedersSafe) : (s.takeTrip r).FeedersSafe := h.protectionTrip

theorem State.FeedersSafe.offerTrip {r : TripCall} (h : s.FeedersSafe) : (s.offerTrip r).FeedersSafe := by
  unfold State.offerTrip
  split
  · exact h.modTrips
  · exact h.modTrips.takeTrip
  · exact h.takeTrip

theorem State.FeedersSafe.offerTrips (h : s.FeedersSafe) : s.offerTrips.FeedersSafe :=
  h.modTrips.foldl _ fun _ _ ht => ht.offerTrip

/-! ## The section table (07) -/

theorem FeederView.Core.withBar (h : v.Core) (b : Bool) : FeederView.Core { v with barred := b } :=
  ⟨h.sound, h.queued, h.tested, h.shows⟩

/-- A section that comes to hold no more than it did. -/
theorem State.FeedersSafe.modSection {g : Section → Section} (h : s.FeedersSafe)
    (hg : (s.modSection f g).barred f = true → s.barred f = true) : (s.modSection f g).FeedersSafe :=
  (h.sees f).modSection.safe ⟨(h.ok f).toCore.withBar _, fun hb => (h.ok f).bar (hg hb)⟩

theorem State.modSection_barred (s : State) (f : Feeder) (g : Section → Section) : (s.modSection f g).barred f =
    (s.earthed f || (g s.sections[f]).holdsLocal || (g s.sections[f]).holdsPeer) := by
  unfold State.barred
  rw [State.modSection_get, if_pos rfl]
  rfl

theorem State.barred_iff (s : State) (f : Feeder) :
    s.barred f = true ↔ s.earthed f = true ∨ s.sections[f].holdsLocal = true ∨ s.sections[f].holdsPeer = true := by
  simp only [State.barred, Bool.or_eq_true, or_assoc]

theorem State.barred_of_less {g : Section → Section} (hl : (g s.sections[f]).holdsLocal = true → s.sections[f].holdsLocal = true)
    (hp : (g s.sections[f]).holdsPeer = true → s.sections[f].holdsPeer = true) :
    (s.modSection f g).barred f = true → s.barred f = true := by
  rw [State.modSection_barred, State.barred_iff]
  simp only [Bool.or_eq_true, or_assoc]
  exact Or.imp_right (Or.imp hl hp)

theorem State.announce_same (s before : State) (f : Feeder) : s.SameFeeders (s.announce before f) := by
  unfold State.announce
  split
  · exact (State.SameFeeders.foldl _ _ fun t _ => t.askFor_same f _).trans (State.SameFeeders.foldl _ _ fun t _ => t.askFor_same f _)
  · exact .refl s

theorem State.FeedersSafe.announce (h : s.FeedersSafe) : (s.announce before f).FeedersSafe := h.same (s.announce_same before f)

theorem State.FeedersSafe.barFeeder {c : TripCause} (h : s.FeedersSafe) : (s.barFeeder f c).FeedersSafe :=
  (h.sees f).barFeeder_safe (h.ok f).toCore

/-- A section that changes in any way, and a bar that takes force on it. -/
theorem State.FeedersSafe.modSection_barFeeder {g : Section → Section} {c : TripCause} (h : s.FeedersSafe) :
    ((s.modSection f g).barFeeder f c).FeedersSafe :=
  (h.sees f).modSection.barFeeder_safe ((h.ok f).toCore.withBar _)

theorem State.FeedersSafe.addPeer {tag : Tag} (h : s.FeedersSafe) : (s.addPeer f tag).FeedersSafe := by
  unfold State.addPeer
  extract_lets x
  split
  · exact h.barFeeder
  split
  · exact h.modSection_barFeeder.append
  · exact h.modSection_barFeeder.append

theorem State.FeedersSafe.delPeer {tag : Tag} (h : s.FeedersSafe) : (s.delPeer f tag).FeedersSafe := by
  unfold State.delPeer
  split
  · next hmem =>
    refine (h.modSection (State.barred_of_less id fun _ => ?_)).append
    have hne : s.sections[f].peers ≠ [] := by rintro hnil; rw [hnil] at hmem; cases hmem
    simp [Section.holdsPeer, -Fin.getElem_fin, hne]
  · exact h

theorem State.FeedersSafe.tagEntries {k : Kind} {d : Detail} {tags : List Tag} (h : s.FeedersSafe) : (s.tagEntries f k d tags).FeedersSafe :=
  h.journal (s.tagEntries_only f k d tags)

theorem State.FeedersSafe.overflowEntry {a b : Bool} {tag : Tag} (h : s.FeedersSafe) : (s.overflowEntry f a b tag).FeedersSafe :=
  h.journal (s.overflowEntry_only f a b tag)

theorem State.FeedersSafe.replacePeers {tags : List Tag} (h : s.FeedersSafe) : (s.replacePeers f tags).FeedersSafe := by
  unfold State.replacePeers
  extract_lets x distinct new more t u
  have hu : u.FeedersSafe := by
    unfold u t
    split
    · exact h.modSection_barFeeder
    · next hno =>
      refine h.modSection (State.barred_of_less id fun hp => absurd ?_ hno)
      rw [State.modSection_get, if_pos rfl]
      exact hp
  exact hu.tagEntries.tagEntries.overflowEntry

theorem Section.holdsPeer_of_listed (x : Section) (h : ({ x with overflow := false } : Section).holdsPeer = true) : x.holdsPeer = true := by
  simp only [Section.holdsPeer, Bool.or_false] at h
  rw [Section.holdsPeer, h, Bool.true_or]

theorem State.FeedersSafe.clearMark (h : s.FeedersSafe) : (s.modSection f fun x => { x with overflow := false }).FeedersSafe :=
  h.modSection (State.barred_of_less id s.sections[f].holdsPeer_of_listed)

theorem State.FeedersSafe.writeSummary {y : Summary} (h : s.FeedersSafe) : (s.writeSummary f y).FeedersSafe := by
  unfold State.writeSummary
  extract_lets t x
  have ht : t.FeedersSafe := h.modSection (State.barred_of_less id id)
  exact ht.clearMark.overflowEntry.ite ht

theorem State.FeedersSafe.setCoordination {w : Coordination} {a : Bool} (h : s.FeedersSafe) : (s.setCoordination f w a).FeedersSafe := by
  unfold State.setCoordination
  split
  · exact h
  extract_lets t
  have ht : t.FeedersSafe := h.modSection (State.barred_of_less id id)
  refine State.FeedersSafe.onsetIf (State.FeedersSafe.append ?_)
  unfold State.coordDemand
  split
  · exact ht.lockoutDemand
  · exact ht.lockoutDemand
  · exact ht
  · exact ht

theorem State.FeedersSafe.remapSection {new : Option Mapping} (h : s.FeedersSafe) : (s.remapSection f new).FeedersSafe := by
  rw [State.remapSection_eq]
  split
  · exact h.modSection (State.barred_of_less id id)
  · exact State.FeedersSafe.setCoordination (State.FeedersSafe.journal
      (h.modSection (State.barred_of_less id (by simp [Section.holdsPeer]))) (s.clearedSection_only f new))

theorem State.FeedersSafe.dropIndex (h : s.FeedersSafe) : (s.dropIndex l i).FeedersSafe := by
  unfold State.dropIndex
  extract_lets t
  have ht : t.FeedersSafe := h.modIndex
  split
  · exact ht.append
  · exact ht

theorem State.FeedersSafe.remap (h : s.FeedersSafe) : s.remap.FeedersSafe := by
  rw [s.remap_eq]
  have hsec : (State.remapSections feeders s).FeedersSafe := h.foldl feeders fun _ _ ht => ht.ite ht.remapSection
  have hdrop : ((State.remapSections feeders s).dropLost s).FeedersSafe :=
    hsec.foldl linkNames fun _ _ ht => ht.foldl indices fun _ _ hu => hu.dropIndex.ite hu
  exact (hdrop.journal (State.gainedLinks_only _ _)).onsetIf

/-! ## The breaker position (05 R85, R88, R93, R96, R97) -/

/-- The position input changes; the context has not acted yet. -/
theorem State.FeedersSafe.showBreaker {a : Bool} (h : s.FeedersSafe) : (s.showBreaker f a).Sees f { s.view f with shows := a } := by
  refine ⟨(h.sees f).unit, fun j hj => ?_, ?_⟩
  · have hview : (s.showBreaker f a).view j = s.view j := by
      simp only [State.view, FeederView.mk.injEq]
      refine ⟨rfl, rfl, rfl, ?_, rfl⟩
      simp only [State.shows, State.showBreaker, Fin.getElem_fin]
      exact Vector.getElem_set_ne _ _ fun hv => hj (Fin.ext hv.symm)
    exact hview ▸ h.ok j
  · simp only [State.view, FeederView.mk.injEq]
    refine ⟨rfl, rfl, rfl, ?_, rfl⟩
    simp [State.shows, State.showBreaker]

theorem State.FeedersSafe.contextOpens (h : s.FeedersSafe) (hs : s.shows f = true) : ((s.showBreaker f false).contextOpens f).FeedersSafe := by
  have hsees := h.showBreaker (f := f) (a := false)
  have hok := h.ok f
  have hstate := hok.shows.mp hs
  have hsame : (s.showBreaker f false).fstate f = (s.view f).ctx.state := hsees.state
  unfold State.contextOpens
  split
  case h_1 heq =>
    have htrip := hsame.symm.trans heq
    refine hsees.completeTrip_safe ⟨hok.sound.lock_none (by simp [htrip]), hok.sound.wait_none (by simp [htrip]),
      hok.sound.deadTimer_none (by simp [htrip]), hok.queued_false (by simp [htrip]), hok.tested_false (by simp [htrip])⟩ rfl
      (hok.sound.closeTimer_none (by simp [htrip])) (Option.none_of_imp hok.sound.2.2.2.2.2.2.1 (by simp [htrip]))
  case h_2 heq =>
    have hfree := hok.free (.inl (hsame.symm.trans heq))
    unfold State.protectionTrip State.tripRequest
    rw [if_pos heq]
    exact hsees.trip_safe ⟨hfree.lock, hfree.wait, hfree.deadTimer, hfree.queued, hfree.tested⟩
  case h_3 heq => exact (hsees.same (State.append_same _ _ _ _ _)).locked_safe rfl
  all_goals
    next heq =>
    rw [← hsame, heq] at hstate
    simp at hstate

theorem State.FeedersSafe.activateBlocks (h : s.FeedersSafe) : (s.activateBlocks f).FeedersSafe := by
  unfold State.activateBlocks
  refine State.FeedersSafe.foldl (h.modSection (State.barred_of_less (fun hl => ?_) id)) _ fun _ _ ht => ht.append
  simpa only [Section.holdsLocal, List.isEmpty_map] using hl

theorem State.FeedersSafe.closeDone (h : s.FeedersSafe) (hs : s.fstate f = .closing) : ((s.showBreaker f true).closeDone f).FeedersSafe := by
  have hsees := h.showBreaker (f := f) (a := true)
  have hok := h.ok f
  have hstate : (s.view f).ctx.state = .closing := hs
  have hd := hok.dormant_away (by simp [hstate])
  have hb := hok.barred_false (by simp [hstate])
  have hwait := hok.sound.wait_none (by simp [hstate])
  have hdead := hok.sound.deadTimer_none (by simp [hstate])
  have hfollow := hok.sound.followTimer_none (by simp [hstate]) (by simp [hstate])
  unfold State.closeDone
  extract_lets c t u
  have ht : t.FeedersSafe := by
    refine hsees.modCtx.safe (FeederView.ok_of ?_ hd.queued hd.tested (by simp) (by simp) (by simp [hb]))
    simp [Context.Sound, hd.lock, hd.disp, hd.tripTimer, hwait, hdead, hfollow]
  exact (ht.askFor.ite ht).append

/-- A feeder in no trip and in no close under way. -/
theorem FeederView.Core.idle_timers (h : v.Core) (hc : v.ctx.state ≠ .closing)
    (hs : ¬ (v.ctx.state = .closed ∨ v.ctx.state = .tripping ∨ v.ctx.state = .stuck)) :
    v.ctx.disp = none ∧ v.ctx.tripTimer = none ∧ v.ctx.closeTimer = none :=
  ⟨h.sound.disp_none fun hd => hs (.inr hd), Option.isSome_iff_none h.sound.2.2.2.2.1 fun ht => hs (.inr (.inl ht)),
    h.sound.closeTimer_none hc⟩

/-- A breaker that closes by itself trips under a bar or EOFF, and else is CLOSED (05 R97). -/
theorem State.FeedersSafe.unexpectedClose (h : s.FeedersSafe) (hc : s.fstate f ≠ .closing) (hs : s.shows f = false) :
    ((s.showBreaker f true).unexpectedClose f).FeedersSafe := by
  have hok := h.ok f
  have hnot : ¬ ((s.view f).ctx.state = .closed ∨ (s.view f).ctx.state = .tripping ∨ (s.view f).ctx.state = .stuck) := by
    rw [← hok.shows]
    exact Bool.eq_false_iff.mp hs
  have hsees := (h.showBreaker (f := f) (a := true)).undoReclose
  obtain ⟨hdisp, htrip, hclose⟩ := hok.idle_timers hc hnot
  unfold State.unexpectedClose
  extract_lets t
  split
  · exact hsees.modCtx.trip_safe ⟨rfl, rfl, rfl, rfl, rfl⟩
  · next hbar =>
    have hb : (s.view f).barred = false := by
      have : (s.showBreaker f true).barred f = false := by
        cases hx : (s.showBreaker f true).barred f with
        | false => rfl
        | true => rw [hx] at hbar; exact absurd rfl hbar
      exact this
    refine State.FeedersSafe.append (hsees.modCtx.safe (FeederView.ok_of ?_ rfl rfl (by simp) (by simp) (by simp [hb])))
    simp [Context.Sound, hdisp, htrip, hclose]

theorem State.FeedersSafe.contextCloses (h : s.FeedersSafe) (hs : s.shows f = false) :
    ((s.showBreaker f true).contextCloses f).FeedersSafe := by
  have hok := h.ok f
  have hsees := h.showBreaker (f := f) (a := true)
  have hsame : (s.showBreaker f true).fstate f = s.fstate f := hsees.state
  have hclosed (hst : s.fstate f = .closed ∨ s.fstate f = .tripping ∨ s.fstate f = .stuck) : False := by
    have := hok.shows.mpr hst
    rw [show (s.view f).shows = s.shows f from rfl, hs] at this
    cases this
  unfold State.contextCloses
  rw [hsame]
  split
  case h_1 heq => exact h.closeDone heq
  case h_8 heq => exact (hclosed (.inl heq)).elim
  case h_9 heq => exact (hclosed (.inr (.inl heq))).elim
  case h_10 heq => exact (hclosed (.inr (.inr heq))).elim
  all_goals
    next heq => exact h.unexpectedClose (by simp [heq]) hs

/-! ## Earthing (07 R125, R126) -/

theorem State.FeedersSafe.showEarth {a : Bool} (h : s.FeedersSafe) :
    (s.showEarth f a).Sees f { s.view f with barred := (s.showEarth f a).barred f } := by
  refine ⟨(h.sees f).unit, fun j hj => ?_, rfl⟩
  have hview : (s.showEarth f a).view j = s.view j := by
    simp only [State.view, FeederView.mk.injEq]
    refine ⟨rfl, rfl, rfl, rfl, ?_⟩
    have hearth : (s.showEarth f a).earthed j = s.earthed j := by
      simp only [State.earthed, State.showEarth, Fin.getElem_fin]
      exact Vector.getElem_set_ne _ _ fun hv => hj (Fin.ext hv.symm)
    simp only [State.barred, hearth]
    rfl
  exact hview ▸ h.ok j

theorem State.FeedersSafe.earth (h : s.FeedersSafe) {c : TripCause} {a : Bool} : ((s.showEarth f a).barFeeder f c).FeedersSafe :=
  h.showEarth.barFeeder_safe ((h.ok f).toCore.withBar _)

theorem State.FeedersSafe.unearth (h : s.FeedersSafe) : (s.showEarth f false).FeedersSafe := by
  refine h.showEarth.safe ⟨(h.ok f).toCore.withBar _, fun hb => (h.ok f).bar ?_⟩
  have hearth : (s.showEarth f false).earthed f = false := by simp [State.earthed, State.showEarth]
  have hb' : (s.showEarth f false).barred f = true := hb
  rw [State.barred_iff, hearth] at hb'
  exact (s.barred_iff f).mpr (.inr (hb'.resolve_left Bool.false_ne_true))

/-! ## The links (08) -/

theorem State.FeedersSafe.linkEntry {n : Int} (h : s.FeedersSafe) : (s.linkEntry l n).FeedersSafe := h.append

theorem State.FeedersSafe.takeSummaries {w : Vector Summary 4} (h : s.FeedersSafe) : (s.takeSummaries l w).FeedersSafe :=
  h.foldl indices fun _ _ ht => by
    extract_lets u
    have hu : u.FeedersSafe := ht.modIndex
    split
    · exact hu.writeSummary
    · exact hu

theorem State.FeedersSafe.evaluateSection {w : Vector Summary 4} (h : s.FeedersSafe) : (s.evaluateSection l w f).FeedersSafe := by
  unfold State.evaluateSection
  split
  · exact h.setCoordination.ite h
  · exact h

theorem State.FeedersSafe.handleStatus {w : Vector Summary 4} (h : s.FeedersSafe) : (s.handleStatus l w).FeedersSafe := by
  unfold State.handleStatus State.askBecame
  exact State.FeedersSafe.foldl (h.takeSummaries.foldl _ fun _ _ ht => ht.evaluateSection) _ fun _ _ ht => ht.askFor

theorem State.FeedersSafe.takeStatus {w : Vector Summary 4} (h : s.FeedersSafe) : (s.takeStatus l w).FeedersSafe := by
  unfold State.takeStatus
  split
  · exact h.modLink.linkEntry
  · exact h.modLink.handleStatus.linkEntry
  · exact h.handleStatus

theorem State.FeedersSafe.takeTripAck {b : Byte} (h : s.FeedersSafe) : (s.takeTripAck l i b).FeedersSafe := by
  unfold State.takeTripAck
  split
  · exact h
  · exact h.modIndex.append.ite h

/-- A feeder that waits fails its attempt on a received trip (08 R149). -/
theorem State.FeedersSafe.intertripWaiting {d : Detail} (h : s.FeedersSafe)
    (hs : s.fstate f = .deadTime ∨ s.fstate f = .queued ∨ s.fstate f = .testing ∨ s.fstate f = .waitPeer) :
    ((s.undoReclose f).failedAttempt f d).FeedersSafe := by
  have hd := (h.ok f).dormant (by rw [show (s.view f).ctx.state = s.fstate f from rfl]; tauto)
  have hb := (h.ok f).barred_false (by rw [show (s.view f).ctx.state = s.fstate f from rfl]; tauto)
  exact (h.sees f).undoReclose.failedAttempt_safe ⟨hd.lock, hd.disp, hd.tripTimer, hd.reclaimTimer, hd.shows, rfl, rfl⟩ hb

theorem State.FeedersSafe.intertripFeeder {b : Byte} (h : s.FeedersSafe) : (s.intertripFeeder f b).FeedersSafe := by
  unfold State.intertripFeeder
  split
  case h_1 => exact h.protectionTrip
  case h_2 heq => exact h.intertripWaiting (.inl heq)
  case h_3 heq => exact h.intertripWaiting (.inr (.inl heq))
  case h_4 heq => exact h.intertripWaiting (.inr (.inr (.inl heq)))
  case h_5 heq => exact h.intertripWaiting (.inr (.inr (.inr heq)))
  all_goals exact h

theorem State.FeedersSafe.takeTripReq {b : Byte} (h : s.FeedersSafe) : (s.takeTripReq l i b).FeedersSafe := by
  unfold State.takeTripReq
  split
  · exact h.modLink
  · exact h.ask.ite h.ask.modIndex.append.intertripFeeder

theorem State.FeedersSafe.takeFor {act : State → Feeder → State} (h : s.FeedersSafe) (hact : ∀ f, (act s f).FeedersSafe) :
    (s.takeFor l i act).FeedersSafe := by
  unfold State.takeFor
  split
  · exact h.modLink
  · exact State.FeedersSafe.ite h.modLink (hact _)

theorem State.FeedersSafe.restoredFeeder (h : s.FeedersSafe) : (s.restoredFeeder f).FeedersSafe := by
  unfold State.restoredFeeder
  extract_lets t
  have ht : t.FeedersSafe := h.append
  split
  · next hwait =>
    have hstate : (t.view f).ctx.state = .waitPeer := hwait
    have hd := (ht.ok f).dormant_away (by simp [hstate])
    have hdead := (ht.ok f).sound.deadTimer_none (by simp [hstate])
    split
    · next hi =>
      have hb := (ht.sees f).barred_of_pass hi
      exact (ht.sees f).modCtx.enterClosing_safe ⟨hd.lock, hd.disp, hd.tripTimer, hd.reclaimTimer, hd.shows, hd.queued, hd.tested⟩
        hdead hb
    · exact (ht.sees f).interlockFails_safe hd
  · exact ht

theorem State.FeedersSafe.takeFrame {y : PeerFrame} (h : s.FeedersSafe) : (s.takeFrame l y).FeedersSafe := by
  cases y with
  | status w => exact h.takeStatus
  | tripReq i id => exact h.takeTripReq
  | tripAck i id => exact h.takeTripAck
  | restored i => exact h.takeFor fun _ => h.restoredFeeder
  | lockout i => exact h.takeFor fun _ => h.append.lockoutDemand
  | blockAdd i t => exact h.takeFor (act := fun s f => s.addPeer f t) fun _ => h.addPeer
  | blockDel i t => exact h.takeFor (act := fun s f => s.delPeer f t) fun _ => h.delPeer
  | blockSet i ts => exact h.takeFor (act := fun s f => s.replacePeers f ts) fun _ => h.replacePeers

theorem State.FeedersSafe.receive {y : PeerFrame} (h : s.FeedersSafe) : (s.receive l y).FeedersSafe := by
  unfold State.receive
  exact State.FeedersSafe.ite h.modLink (State.FeedersSafe.ite h.modLink h.modLink.takeFrame.settle)

theorem State.FeedersSafe.loseIntertrip (h : s.FeedersSafe) : (s.loseIntertrip l i).FeedersSafe := by
  unfold State.loseIntertrip
  split
  · exact h
  · exact h.modIndex.lockoutDemand.append

theorem State.FeedersSafe.retryIntertrip {o : Outstanding} (h : s.FeedersSafe) : (s.retryIntertrip l i o).FeedersSafe := by
  unfold State.retryIntertrip
  exact State.FeedersSafe.ite h.modIndex.ask h.modIndex.lockoutDemand.append

theorem State.FeedersSafe.loseLink (h : s.FeedersSafe) : (s.loseLink l).FeedersSafe := by
  unfold State.loseLink
  extract_lets was t u w x
  have ht : t.FeedersSafe := h.modLink
  have hu : u.FeedersSafe := ht.foldl indices fun _ _ hx => hx.loseIntertrip
  have hw : w.FeedersSafe := hu.foldl _ fun _ _ hx => hx.setCoordination
  have hx : x.FeedersSafe := hw.modLink.linkEntry
  exact hx.onsetIf

theorem State.FeedersSafe.transmitFrom {q : List Frame} (h : s.FeedersSafe) : (s.transmitFrom l q).FeedersSafe := by
  induction q with
  | nil => exact h.modLink
  | cons y q ih =>
    unfold State.transmitFrom
    exact h.modLink.ite ih

end

end Sys2Proof.Machine
end


section
/-! PROOFS. The feeders stay safe, last part: the other units, the ports, the resets, and every command and step. -/

-- One text with the model: proofs elaborated side by side would need more threads than the check's memory holds.
set_option Elab.async false

namespace Sys2Proof.Machine

section
variable {s t before : State} {f : Feeder} {v : FeederView}

/-! ## The sample unit and the bus differential (01; 03 R46 to R49) -/

theorem State.FeedersSafe.tripRequests {c : TripCause} {d : Disposition} {n : Int} {b : Byte} (h : s.FeedersSafe) (fs : List Feeder) :
    (fs.foldl (fun t f => t.tripRequest f c d n b) s).FeedersSafe := h.foldl fs fun _ _ ht => ht.tripRequest

theorem State.FeedersSafe.channelFails (h : s.FeedersSafe) : (s.channelFails f).FeedersSafe := by
  unfold State.channelFails
  extract_lets alone t u
  have ht : t.FeedersSafe := h.modSample
  have hu : u.FeedersSafe := ht.tripRequest.ite ht
  exact hu.append.onsetIf

theorem State.FeedersSafe.checkChannels (h : s.FeedersSafe) : s.checkChannels.FeedersSafe :=
  h.foldl feeders fun t f ht => by
    unfold State.checkChannel State.channelRestored
    exact State.FeedersSafe.ite (ht.modSample.append.ite ht) (ht.channelFails.ite ht)

theorem State.FeedersSafe.tryRestart (h : s.FeedersSafe) : s.tryRestart.FeedersSafe := h.rectifier s.tryRestart_only

theorem State.FeedersSafe.resume {a : Bool} (h : s.FeedersSafe) : (s.resume a).FeedersSafe := by
  unfold State.resume State.enterLive
  extract_lets t
  have ht : t.FeedersSafe := h.modSample
  exact ht.modSample.tryRestart.append.ite ht

theorem State.FeedersSafe.blockRequest {c : RectCause} {g : Option Gate} (h : s.FeedersSafe) : (s.blockRequest c g).FeedersSafe :=
  h.rectifier (s.blockRequest_only c g)

theorem State.FeedersSafe.declareBusFault {n : Int} (h : s.FeedersSafe) : (s.declareBusFault n).FeedersSafe := by
  unfold State.declareBusFault
  split
  · unfold State.busTrip
    exact h.ite (h.blockRequest.tripRequests _).append
  · unfold State.busAlarm
    exact h.ite h.append.modRect
  · exact h

theorem State.FeedersSafe.busStep (h : s.FeedersSafe) : s.busStep.FeedersSafe := by
  unfold State.busStep
  have ht : s.busDifferential.2.FeedersSafe := h.rectifier s.busDifferential_only
  split
  · next t heq => rw [heq] at ht; exact ht.declareBusFault
  · next t heq => rw [heq] at ht; exact ht

theorem State.FeedersSafe.deliver {x : SampleSet} {a : Bool} (h : s.FeedersSafe) : (s.deliver x a).FeedersSafe := by
  unfold State.deliver
  extract_lets row t
  have ht : t.FeedersSafe := h.modSample
  have hoffer := ((ht.discriminate (a := a)).journal (State.fillSlots_only _ row)).offerTrips
  have hbus := (hoffer.rectifier (State.addSums_only _)).busStep
  exact hbus.rectifier (State.absorber_only _)

theorem State.FeedersSafe.takeSet {x : SampleSet} (h : s.FeedersSafe) : (s.takeSet x).FeedersSafe := by
  unfold State.takeSet
  have ht : (s.modSample fun u => u.takeSet x).checkChannels.FeedersSafe :=
    State.FeedersSafe.checkChannels (h.modSample (g := fun u => u.takeSet x))
  generalize (s.modSample fun u => u.takeSet x).checkChannels = t at ht
  extract_lets gap t' u
  have hu : u.FeedersSafe := ht.resume
  exact State.FeedersSafe.ite ht.deliver (hu.deliver.ite hu)

theorem State.FeedersSafe.enterBlind (h : s.FeedersSafe) : s.enterBlind.FeedersSafe := by
  unfold State.enterBlind
  extract_lets t u
  have ht : t.FeedersSafe := h.modSample
  have hu : u.FeedersSafe := (ht.journal t.sealAll_only).modRect.journal (State.absorberEdge_only _ _)
  exact hu.append.onsetIf

theorem State.FeedersSafe.blindAction (h : s.FeedersSafe) : s.blindAction.FeedersSafe := by
  unfold State.blindAction
  exact (h.tripRequests _).blockRequest.ite h

/-! ## The tracker (02) -/

theorem State.FeedersSafe.handOn {x : Option Instant} (h : s.FeedersSafe) : (s.handOn x).FeedersSafe := h.rectifier (s.notice_only _)

theorem State.FeedersSafe.reportSync {was : TrackerState} {c : SyncChange} {n : Int} {x : Option Instant} (h : s.FeedersSafe) :
    (s.reportSync was c n x).FeedersSafe := h.append.onsetIf.handOn

theorem State.FeedersSafe.toUnsync {c : SyncChange} (h : s.FeedersSafe) : (s.toUnsync c).FeedersSafe := h.modTracker.reportSync

theorem State.FeedersSafe.acceptCrossing {x : Stamp} {n : Nat} (h : s.FeedersSafe) : (s.acceptCrossing x n).FeedersSafe := by
  unfold State.acceptCrossing
  extract_lets u
  have hu : u.FeedersSafe := h.modTracker
  split
  · exact hu.modTracker.reportSync
  · unfold State.crossAcquire
    exact hu.modTracker.ite (hu.modTracker.ite ((hu.modTracker.reportSync.ite hu.modTracker).ite hu.modTracker))
  · unfold State.crossLocked
    exact hu.modTracker.handOn.ite hu.modTracker.reportSync
  · unfold State.crossHoldover
    exact hu.modTracker.reportSync.ite hu.modTracker.reportSync

theorem State.FeedersSafe.onDeadline {st : TrackerState} {act : State → State} (h : s.FeedersSafe) (hact : (act s).FeedersSafe) :
    (s.onDeadline st act).FeedersSafe := hact.ite h

theorem State.FeedersSafe.lockedExpires (h : s.FeedersSafe) : s.lockedExpires.FeedersSafe := by
  unfold State.lockedExpires
  exact State.FeedersSafe.ite h.modTracker.reportSync h.toUnsync

theorem State.FeedersSafe.holdoverExpires (h : s.FeedersSafe) : s.holdoverExpires.FeedersSafe := by
  unfold State.holdoverExpires
  exact State.FeedersSafe.ite h.modTracker.handOn h.toUnsync

/-! ## The ports: a judgement that keeps the feeders safe (10 R173, R176) -/

def JudgeSafe (judge : State → Reply) : Prop := ∀ s : State, s.FeedersSafe → (judge s).state.FeedersSafe

theorem State.FeedersSafe.firstByte {p : Port} (h : s.FeedersSafe) : (s.firstByte p).FeedersSafe := h.modPort

theorem State.FeedersSafe.lowerSelect {p : Port} (h : s.FeedersSafe) : (s.lowerSelect p).FeedersSafe :=
  h.same { shows := fun _ => by cases p <;> rfl, barred := fun _ => by cases p <;> rfl }

theorem State.FeedersSafe.raiseSelect {p : Port} (h : s.FeedersSafe) : (s.raiseSelect p).FeedersSafe :=
  h.same { shows := fun _ => by cases p <;> rfl, barred := fun _ => by cases p <;> rfl }

theorem State.FeedersSafe.receiveBytes {p : Port} {bytes : List Byte} (h : s.FeedersSafe) : (s.receiveBytes p bytes).FeedersSafe := by
  unfold State.receiveBytes
  split
  · exact h
  · exact h.firstByte.modPort

theorem State.FeedersSafe.receiveRequest {p : Port} {req : List Byte} (h : s.FeedersSafe) : (s.receiveRequest p req).FeedersSafe := by
  unfold State.receiveRequest
  exact (h.firstByte.ite h).ite h.raiseSelect.lowerSelect.firstByte

theorem State.FeedersSafe.serve {p : Port} {c : Instr} {judge : State → Reply} (h : s.FeedersSafe) (hj : JudgeSafe judge) :
    (s.serve p c judge).FeedersSafe := by
  unfold State.serve Reply.respond
  exact (hj _ h.receiveRequest).modPort

theorem judgeSafe_answer (data : State → List Byte) : JudgeSafe fun s => s.answer (data s) := fun _ h => h

theorem judgeSafe_refuse (res : Result) : JudgeSafe fun s => s.refuse res := fun _ h => h

theorem JudgeSafe.authorised {judge : State → Reply} (h : JudgeSafe judge) (p : Port) : JudgeSafe fun s => s.authorised p (judge s) := by
  intro s hs
  dsimp only [State.authorised]
  split
  · exact h s hs
  · exact hs

theorem judgeSafe_forFeeder {act : State → Feeder → Reply} (h : ∀ f, JudgeSafe fun s => act s f) (b : Byte) :
    JudgeSafe fun s => s.forFeeder b (act s) := by
  intro s hs
  dsimp only [State.forFeeder]
  split
  · exact h _ s hs
  · exact hs

theorem State.attach_safe (p : Port) : JudgeSafe fun s => s.attach p := by
  intro s h
  dsimp only [State.attach]
  split
  · exact h.modReader (g := fun r => { r with cursor := some s.firstSeq })
  · exact h.modReader (g := fun r => { r with cursor := some s.firstSeq, lost := 0 })

theorem State.detach_safe (p : Port) : JudgeSafe fun s => s.detach p := by
  intro s h
  dsimp only [State.detach]
  split
  · exact h.modReader.retire
  · exact h

theorem State.fetch_safe (p : Port) : JudgeSafe fun s => s.fetch p := by
  intro s h
  dsimp only [State.fetch]
  split
  · exact h
  · exact h.modReader.retire

theorem State.setMask_safe (p : Port) (mask : Byte) : JudgeSafe fun s => s.setMask p mask := by
  intro s h
  dsimp only [State.setMask]
  split
  · exact h
  · exact h.modReader (g := fun r => { r with mask := mask })

theorem State.readRecord_safe (slot first count : Nat) : JudgeSafe fun s => s.readRecord slot first count := by
  intro s h
  dsimp only [State.readRecord]
  split_ifs <;> exact h

theorem State.readSetting_safe (id : Nat) : JudgeSafe fun s => s.readSetting id := by
  intro s h
  dsimp only [State.readSetting]
  split <;> exact h

theorem State.readLink_safe (link : Byte) : JudgeSafe fun s => s.readLink link := by
  intro s h
  dsimp only [State.readLink]
  split <;> exact h

/-! ## The commands to the rectifier controller, the feeders and the sections -/

theorem State.startRectifier_safe : JudgeSafe State.startRectifier := by
  intro s h
  unfold State.startRectifier
  split_ifs
  all_goals first | exact h | exact h.rectifier (s.startUp_only _)

theorem State.stopRectifier_safe : JudgeSafe State.stopRectifier := by
  intro s h
  unfold State.stopRectifier
  split
  · exact h
  · exact h.rectifier (s.shiftTo_only _ _)
  · exact h.rectifier (s.shiftTo_only _ _)
  · split
    · split
      · exact h
      · exact h.rectifier (s.replaceEnd_only .stopped none)
    · exact h
  · split
    · exact h.rectifier (s.enterStopped_only _)
    · exact h
  · exact h.rectifier (s.abortGateTest_only.trans (State.enterStopped_only _ _))

theorem State.resetRectifier_safe : JudgeSafe State.resetRectifier := by
  intro s h
  unfold State.resetRectifier
  split
  · exact h
  split
  · exact h
  · exact h.rectifier ((s.modRect_only _).trans (State.enterStopped_only _ _))

theorem State.FeedersSafe.beginGateStep (h : s.FeedersSafe) : s.beginGateStep.FeedersSafe := h.same {}

theorem State.gateTest_safe (repeats skip : Nat) : JudgeSafe fun s => s.gateTest repeats skip := by
  intro s h
  dsimp only [State.gateTest]
  split_ifs
  all_goals first
    | exact h
    | exact State.FeedersSafe.beginGateStep (h.modRect.journal (State.rectEntry_only _ _ _))

theorem State.releaseHold_safe (p : Port) : JudgeSafe fun s => s.releaseHold p := by
  intro s h
  dsimp only [State.releaseHold]
  split
  · exact State.FeedersSafe.tryRestart (State.FeedersSafe.append (h.same {}))
  · exact h

theorem State.closeFeeder_safe (f : Feeder) : JudgeSafe fun s => s.closeFeeder f := by
  intro s h
  dsimp only [State.closeFeeder]
  split
  · exact h
  split
  · exact h
  split
  · exact h
  next hopen hpass =>
    have hstate : (s.view f).ctx.state = .opened := not_not.mp hopen
    have hd := (h.ok f).dormant_away (.inl hstate)
    have hsound := (h.ok f).sound
    have hb := (h.sees f).barred_of_pass (not_not.mp hpass)
    have hsees := (h.sees f).modCtx (g := fun c => { c with count := 0, auto := false })
    exact (hsees.enterClosing_safe ⟨hd.lock, hd.disp, hd.tripTimer, hd.reclaimTimer, hd.shows, hd.queued, hd.tested⟩
      (hsound.deadTimer_none (by simp [hstate])) hb).ite
      (hsees.joinQueue_safe ⟨hd.lock, hd.disp, hd.tripTimer, hd.reclaimTimer, hd.shows, hd.queued, hd.tested⟩
      (hsound.closeTimer_none (by simp [hstate])) (hsound.followTimer_none (by simp [hstate]) (by simp [hstate])) hb)

theorem State.FeedersSafe.commandedOpen {c : TripCause} (h : s.FeedersSafe) : (s.commandedOpen f c).FeedersSafe :=
  (h.sees f).commandedOpen_safe (h.ok f).toCore

theorem State.openFeeder_safe (f : Feeder) : JudgeSafe fun s => s.openFeeder f := by
  intro s h
  dsimp only [State.openFeeder]
  split
  all_goals first | exact h.commandedOpen | exact h

theorem State.resetFeeder_safe (f : Feeder) : JudgeSafe fun s => s.resetFeeder f := by
  intro s h
  dsimp only [State.resetFeeder]
  split
  · exact h
  split
  · exact h
  next hlocked _ =>
    have hok := h.ok f
    have hstate : (s.view f).ctx.state = .locked := not_not.mp hlocked
    have hsound := hok.sound
    have hauto := hsound.2.2.2.2.2.2.2.1
    refine State.FeedersSafe.append ((h.sees f).modCtx.safe (FeederView.ok_of ?_ (hok.queued_false (by simp [hstate]))
      (hok.tested_false (by simp [hstate])) (by simp) (by simp [hok.shows_false (by simp [hstate])]) (by simp)))
    have hdisp := hsound.disp_none (by simp [hstate])
    have hwait := hsound.wait_none (by simp [hstate])
    have hdead := hsound.deadTimer_none (by simp [hstate])
    have htrip := Option.isSome_iff_none hsound.2.2.2.2.1 (by simp [hstate])
    have hclose := hsound.closeTimer_none (by simp [hstate])
    have hreclaim := Option.none_of_imp hsound.2.2.2.2.2.2.1 (by simp [hstate])
    have hfollow := hsound.followTimer_none (by simp [hstate]) (by simp [hstate])
    have hoff : (s.view f).ctx.auto = false := Bool.eq_false_iff.mpr fun ha => (hauto ha).2.1 hstate
    simp [Context.Sound, hdisp, hwait, hdead, htrip, hclose, hreclaim, hfollow, hoff]

theorem State.placeBlock_safe (p : Port) (tag : Tag) (openFirst : Byte) (f : Feeder) :
    JudgeSafe fun s => s.placeBlock p tag openFirst f := by
  intro s h
  dsimp only [State.placeBlock]
  split
  · exact h
  split
  · exact h
  split
  · exact h
  split
  · exact h
  · unfold State.placeEntry
    extract_lets active t u
    have ht : t.FeedersSafe := h.barFeeder
    have hparks : ((t.view f).ctx.state).parked := (h.sees f).barFeeder_parks
    have hu : u.FeedersSafe :=
      State.FeedersSafe.append ((ht.sees f).modSection.safe ⟨(ht.ok f).toCore.withBar _, fun _ => hparks⟩)
    exact hu.announce

theorem State.removeBlock_safe (p : Port) (tag : Tag) (f : Feeder) : JudgeSafe fun s => s.removeBlock p tag f := by
  intro s h
  dsimp only [State.removeBlock]
  split
  · exact h
  split
  · refine State.FeedersSafe.announce (State.FeedersSafe.append (h.modSection (State.barred_of_less (fun hl => ?_) id)))
    simp only [Section.holdsLocal, Bool.not_eq_true'] at hl ⊢
    rw [List.isEmpty_eq_false_iff] at hl ⊢
    exact fun hnil => hl (by rw [hnil]; rfl)
  · exact h

theorem State.writeSetting_safe (p : Port) (id : Nat) (n : Int) : JudgeSafe fun s => s.writeSetting p id n := by
  intro s h
  have hstore (m : SettingName) (k : Int) : (s.storeSetting p id m k).FeedersSafe := by
    unfold State.storeSetting
    have ht : (({ s with settings := s.settings.write m k } : State).append .settingChanged (.port p) (.setting id) k).FeedersSafe :=
      State.FeedersSafe.append (h.same {})
    generalize ({ s with settings := s.settings.write m k } : State).append .settingChanged (.port p) (.setting id) k = t at ht
    unfold State.settingEffects
    have halpha : (t.reformAlpha m).FeedersSafe := by
      unfold State.reformAlpha
      extract_lets limited
      have hl : limited.FeedersSafe := ht.ite ht.modRect
      split
      · exact hl
      · exact hl
      · exact ht.modRect
      all_goals exact ht
    exact halpha.ite (ht.tryRestart.ite (ht.remap.ite ht))
  have hvalue (m : SettingName) (k : Int) (limited : Bool) : (s.writeValue p id m k limited).state.FeedersSafe := by
    unfold State.writeValue
    split
    · exact h
    split
    · exact h.onsetIf
    · exact (hstore m k).onsetIf
  dsimp only [State.writeSetting]
  split
  · exact h
  · split_ifs
    · exact h
    · exact hvalue _ _ _
    · exact hvalue _ _ _

/-! ## The timers of a context (05 R86, R89, R93, R94) -/

theorem expired_isSome {o : Option Nat} (h : ¬ (!expired o) = true) : o.isSome = true := by
  cases o with
  | none => exact absurd rfl h
  | some n => rfl

theorem State.FeedersSafe.deadTimeExpires (h : s.FeedersSafe) (ht : s.ctx[f].deadTimer.isSome = true) :
    ((s.modCtx f fun c => { c with deadTimer := none }).deadTimeEnd f).FeedersSafe := by
  have hok := h.ok f
  have hstate : (s.view f).ctx.state = .deadTime := (hok.sound.2.2.2.1.mp ht).1
  have hd := hok.dormant_away (by simp [hstate])
  exact (h.sees f).modCtx.deadTimeEnd_safe ⟨hd.lock, hd.disp, hd.tripTimer, hd.reclaimTimer, hd.shows, hd.queued, hd.tested⟩
    (hok.sound.closeTimer_none (by simp [hstate])) (hok.sound.followTimer_none (by simp [hstate]) (by simp [hstate]))

theorem State.FeedersSafe.closeExpires (h : s.FeedersSafe) (ht : s.ctx[f].closeTimer.isSome = true) :
    ((s.modCtx f fun c => { c with closeTimer := none }).closeFails f).FeedersSafe := by
  have hok := h.ok f
  have hstate : (s.view f).ctx.state = .closing := hok.sound.2.2.2.2.2.1.mp ht
  have hd := hok.dormant_away (by simp [hstate])
  have hd' : FeederView.Dormant { s.view f with ctx := { (s.view f).ctx with closeTimer := none } } :=
    ⟨hd.lock, hd.disp, hd.tripTimer, hd.reclaimTimer, hd.shows, hd.queued, hd.tested⟩
  unfold State.closeFails
  exact ((h.sees f).modCtx.failedAttempt_safe hd' (hok.barred_false (by simp [hstate]))).ite
    ((h.sees f).modCtx.toOpened_safe hd').append

theorem State.FeedersSafe.reclaims (h : s.FeedersSafe) :
    (s.modCtx f fun c => { c with reclaimTimer := none, count := if c.state = .closed then 0 else c.count }).FeedersSafe := by
  have hok := h.ok f
  refine (h.sees f).modCtx.safe ⟨⟨?_, hok.queued, hok.tested, hok.shows⟩, hok.bar⟩
  obtain ⟨hlock, hdisp, hwait, hdead, htrip, hclose, -, hauto, hfollow⟩ := hok.sound
  exact ⟨hlock, hdisp, hwait, hdead, htrip, hclose, fun hr => (nomatch hr), hauto, hfollow⟩

theorem State.FeedersSafe.stopFollow (h : s.FeedersSafe) : (s.modCtx f fun c => { c with followTimer := none }).FeedersSafe := by
  have hok := h.ok f
  refine (h.sees f).modCtx.safe ⟨⟨?_, hok.queued, hok.tested, hok.shows⟩, hok.bar⟩
  obtain ⟨hlock, hdisp, hwait, hdead, htrip, hclose, hreclaim, hauto, -⟩ := hok.sound
  exact ⟨hlock, hdisp, hwait, hdead, htrip, hclose, hreclaim, hauto, fun hr => (nomatch hr)⟩

theorem State.FeedersSafe.backupTrip (h : s.FeedersSafe) : (s.backupTrip f).FeedersSafe := by
  unfold State.backupTrip
  split
  · next hs => exact (h.sees f).trip_safe ((h.ok f).free hs)
  · exact h

theorem State.FeedersSafe.escalates (h : s.FeedersSafe) (ht : s.ctx[f].tripTimer.isSome = true) :
    ((s.modCtx f fun c => { c with tripTimer := none }).escalate f).FeedersSafe := by
  have hok := h.ok f
  have hstate : (s.view f).ctx.state = .tripping := hok.sound.2.2.2.2.1.mp ht
  unfold State.escalate
  extract_lets t u w
  have hstuck : t.FeedersSafe := by
    refine State.FeedersSafe.blockRequest ((h.sees f).modCtx.modCtx.safe (FeederView.ok_of ?_ (hok.queued_false (by simp [hstate]))
      (hok.tested_false (by simp [hstate])) (by simp) (by simp [hok.shows.mpr (.inr (.inl hstate))]) (by simp)))
    have hdisp := hok.sound.2.1.mpr (.inl hstate)
    have hwait := hok.sound.wait_none (by simp [hstate])
    have hdead := hok.sound.deadTimer_none (by simp [hstate])
    have hlock := hok.sound.lock_none (by simp [hstate])
    have hclose := hok.sound.closeTimer_none (by simp [hstate])
    have hreclaim := Option.none_of_imp hok.sound.2.2.2.2.2.2.1 (by simp [hstate])
    simp [Context.Sound, hdisp, hwait, hdead, hlock, hclose, hreclaim]
  have hu : u.FeedersSafe := hstuck.foldl _ fun _ _ hx => hx.backupTrip
  have hw : w.FeedersSafe := State.FeedersSafe.ite (hu.same (State.sendTripReq_same _ _)) hu
  exact hw.append

/-! ## One tick, and the resets -/

theorem Context.Sound.tick {c : Context} (h : c.Sound) : c.tick.Sound := by
  simpa [Context.Sound, Context.tick, tickDown] using h

theorem State.FeedersSafe.tick (h : s.FeedersSafe) : s.tick.FeedersSafe := by
  refine s.tick.feedersSafe_iff.mpr ⟨?_, fun f => ?_⟩
  · obtain ⟨hnodup, htimer⟩ := (s.feedersSafe_iff.mp h).1
    exact ⟨hnodup, by simpa [State.tick, tickDown] using htimer⟩
  · have hview : s.tick.view f = { s.view f with ctx := (s.view f).ctx.tick } := by
      simp only [State.view, FeederView.mk.injEq]
      exact ⟨by simp [State.tick], rfl, rfl, rfl, rfl⟩
    rw [hview]
    have hok := h.ok f
    exact ⟨⟨hok.sound.tick, hok.queued, hok.tested, hok.shows⟩, hok.bar⟩

/-- A feeder found closed under a bar or EOFF trips; the position shows closed, so the trip waits for the breaker (05 R103). -/
theorem State.judgeFound_eq (s : State) (f : Feeder) : s.judgeFound f =
    if s.shows f && (s.barred f || s.inputs.eoff) then
      s.modCtx f fun c => c.toTripping .interlock .opened (some (msTicks (s.g .tripTimeMax))) none
    else s := by
  unfold State.judgeFound
  split
  · next hx =>
    have hshows : s.shows f = true := (Bool.and_eq_true _ _ ▸ hx).1
    simp [State.trip, hshows, State.tripEntry, TripCause.commanded, TripCause.intertrips, Context.toTripping]
  · rfl

/-- The states in which a reset finds a feeder, or leaves it. -/
def FeederView.Found (v : FeederView) : Prop :=
  v.Core ∧ (v.ctx.state = .opened ∨ v.ctx.state = .closed ∨ v.ctx.state = .tripping)

theorem State.view_modCtx_of_ne {g : Context → Context} {j : Feeder} (hj : j ≠ f) : (s.modCtx f g).view j = s.view j := by
  simp only [State.view, State.modCtx_get, Ne.symm hj, if_false]
  rfl

theorem State.view_modCtx_self {g : Context → Context} : (s.modCtx f g).view f = { s.view f with ctx := g (s.view f).ctx } := by
  simp only [State.view, State.modCtx_get, if_true]
  rfl

theorem FeederView.Found.toTripping {n : Nat} (h : v.Found) (hs : v.shows = true) :
    FeederView.Ok { v with ctx := v.ctx.toTripping .interlock .opened (some n) none } := by
  obtain ⟨hcore, hstate⟩ := h
  have hlock := hcore.sound.lock_none (by rintro heq; simp [heq] at hstate)
  have hwait := hcore.sound.wait_none (by rintro heq; simp [heq] at hstate)
  have hdead := hcore.sound.deadTimer_none (by rintro heq; simp [heq] at hstate)
  exact FeederView.ok_of (Context.sound_toTripping (d := .opened) (m := 0) hlock hwait hdead)
    (hcore.queued_false (by rintro heq; simp [heq] at hstate)) (hcore.tested_false (by rintro heq; simp [heq] at hstate))
    (by simp [Context.toTripping]) (by simp [hs, Context.toTripping]) (by simp [Context.toTripping])

/-- After the judgements every feeder is safe: those of the list are judged, the others were safe. -/
theorem State.judgeFound_fold (fs : List Feeder) (hunit : s.TestUnit) (hfound : ∀ f, (s.view f).Found)
    (hrest : ∀ f, f ∉ fs → (s.view f).Ok) : (fs.foldl State.judgeFound s).FeedersSafe := by
  induction fs generalizing s with
  | nil => exact s.feedersSafe_iff.mpr ⟨hunit, fun f => hrest f (by simp)⟩
  | cons e rest ih =>
    rw [List.foldl_cons, State.judgeFound_eq]
    split
    · next hx =>
      have htrip := (hfound e).toTripping (n := msTicks (s.g .tripTimeMax)) (Bool.and_eq_true _ _ ▸ hx).1
      have hview (f : Feeder) (hfe : f ≠ e) := State.view_modCtx_of_ne (s := s) (f := e)
        (g := fun c => c.toTripping .interlock .opened (some (msTicks (s.g .tripTimeMax))) none) hfe
      refine ih hunit (fun f => ?_) fun f hf => ?_
      · by_cases hfe : f = e
        · subst hfe
          rw [State.view_modCtx_self]
          exact ⟨htrip.toCore, .inr (.inr rfl)⟩
        · rw [hview f hfe]; exact hfound f
      · by_cases hfe : f = e
        · subst hfe
          rw [State.view_modCtx_self]
          exact htrip
        · rw [hview f hfe]; exact hrest f (by simp [hfe, hf])
    · next hx =>
      refine ih hunit hfound fun f hf => ?_
      by_cases hfe : f = e
      · subst hfe
        obtain ⟨hcore, hstate⟩ := hfound f
        refine ⟨hcore, fun hb => ?_⟩
        have hopen : (s.view f).shows = false := by
          have hb' : s.barred f = true := hb
          have : s.shows f = false := by simpa [hb'] using hx
          exact this
        rcases hstate with heq | heq | heq
        · exact .inl heq
        · rw [hcore.shows.mpr (.inl heq)] at hopen; cases hopen
        · exact .inr (.inr (.inl heq))
      · exact hrest f (by simp [hfe, hf])

theorem Context.sound_reset (a : Bool) : (Context.reset a).Sound := by
  cases a <;> simp [Context.Sound, Context.reset]

theorem State.resetUnits_view (k : State) (inp : Inputs) (kind : Detail) (f : Feeder) : (k.resetUnits inp kind).view f =
    ⟨Context.reset inp.breaker[f], false, false, inp.breaker[f], (k.resetUnits inp kind).barred f⟩ := by
  simp only [State.view, FeederView.mk.injEq]
  exact ⟨by simp [State.resetUnits], rfl, rfl, rfl, trivial⟩

theorem State.resetFrom_safe (k : State) (inp : Inputs) (kind : Detail) : (k.resetFrom inp kind).FeedersSafe := by
  refine State.judgeFound_fold feeders ⟨List.nodup_nil, Iff.rfl⟩ (fun f => ?_) fun f hf => absurd (by revert f; decide) hf
  rw [State.resetUnits_view]
  refine ⟨⟨Context.sound_reset _, ?_, ?_, ?_⟩, ?_⟩ <;> cases inp.breaker[f] <;> simp [Context.reset]

end

end Sys2Proof.Machine
end


section
/-! PROOFS. The feeders stay safe on every command and every step; and the reset state. -/

-- One text with the model: proofs elaborated side by side would need more threads than the check's memory holds.
set_option Elab.async false

namespace Sys2Proof.Machine

/-! ## Every command -/

/-- The answer is a next state whose feeders are safe, if it is a next state. -/
def Answer.Safe (a : Answer) : Prop := ∀ t, a = .next t → t.FeedersSafe

theorem State.FeedersSafe.answer {s : State} (h : s.FeedersSafe) : Answer.Safe (.next s) :=
  fun _ ht => Host.Outcome.next.inj ht ▸ h

theorem Answer.Safe.ite {c : Prop} [Decidable c] {a b : Answer} (ha : Answer.Safe a) (hb : Answer.Safe b) :
    Answer.Safe (if c then a else b) := by
  split
  · exact ha
  · exact hb

section
variable {s : State} {f : Feeder} {l : Link}

theorem State.FeedersSafe.served {p : Port} {c : Instr} {judge : State → Reply} (h : s.FeedersSafe) (hj : JudgeSafe judge) :
    Answer.Safe (.next (s.serve p c judge)) := (h.serve hj).answer

theorem State.FeedersSafe.served_settled {p : Port} {c : Instr} {judge : State → Reply} (h : s.FeedersSafe) (hj : JudgeSafe judge) :
    Answer.Safe (.next (s.serve p c judge).settle) := (h.serve hj).settle.answer

theorem execSampleSetArrival_safe (h : s.FeedersSafe) (bytes : List Byte) : Answer.Safe (execSampleSetArrival bytes s) := by
  unfold execSampleSetArrival
  split
  · exact h.modSample.answer
  · exact h.takeSet.settle.answer

theorem execSampleWatchdogExpiry_safe (h : s.FeedersSafe) : Answer.Safe (execSampleWatchdogExpiry s) := by
  unfold execSampleWatchdogExpiry
  exact h.answer.ite (Answer.Safe.ite (State.FeedersSafe.enterBlind h.modSample).answer h.modSample.modSample.answer)

theorem execBlindTimerExpiry_safe (h : s.FeedersSafe) : Answer.Safe (execBlindTimerExpiry s) := by
  unfold execBlindTimerExpiry
  exact h.answer.ite (Answer.Safe.ite (State.FeedersSafe.blindAction h.modSample).append.settle.answer h.modSample.answer)

theorem execCrossing_safe (h : s.FeedersSafe) (width : Nat) : Answer.Safe (execCrossing width s) := by
  unfold execCrossing
  exact Answer.Safe.ite h.modTracker.answer h.acceptCrossing.answer

theorem State.FeedersSafe.modGate {g : Gate} {u : GateUnit → GateUnit} (h : s.FeedersSafe) : (s.modGate g u).FeedersSafe := h.same {}

theorem State.FeedersSafe.modTest {u : GateTest → GateTest} (h : s.FeedersSafe) : (s.modTest u).FeedersSafe := h.same {}

theorem execGatePulseStart_safe (h : s.FeedersSafe) (g : Gate) : Answer.Safe (execGatePulseStart g s) := by
  unfold execGatePulseStart State.drivePulse
  split
  · exact h.answer
  · exact (h.ite (State.FeedersSafe.ite h.modRect.modGate h.modRect)).answer

theorem execGatePulseEnd_safe (h : s.FeedersSafe) (g : Gate) : Answer.Safe (execGatePulseEnd g s) := by
  unfold execGatePulseEnd
  exact h.answer.ite h.modGate.answer

theorem execGateFeedback_safe (h : s.FeedersSafe) (g : Gate) : Answer.Safe (execGateFeedback g s) := by
  unfold execGateFeedback
  exact Answer.Safe.ite h.modTest.answer (Answer.Safe.ite h.modGate.answer h.answer)

theorem execRestartWindowExpiry_safe (h : s.FeedersSafe) : Answer.Safe (execRestartWindowExpiry s) := by
  unfold execRestartWindowExpiry
  exact h.answer.ite h.modRect.answer

theorem execGateTestStepEnd_safe (h : s.FeedersSafe) : Answer.Safe (execGateTestStepEnd s) := by
  unfold execGateTestStepEnd
  split
  · exact h.answer
  split
  · exact h.modTest.answer
  extract_lets k t
  have ht : t.FeedersSafe := State.FeedersSafe.modTest h.modGate
  have hfinish : t.finishGateTest.FeedersSafe := by
    unfold State.finishGateTest
    exact ht.modTest.append.rectifier (State.enterStopped_only _ _)
  exact (ht.beginGateStep.ite hfinish).answer

theorem execGateTestDriveEnd_safe (h : s.FeedersSafe) : Answer.Safe (execGateTestDriveEnd s) := by
  unfold execGateTestDriveEnd
  exact h.answer.ite (State.FeedersSafe.ite h.modTest.modGate h.modTest).answer

theorem execAcBreakerOpen_safe (h : s.FeedersSafe) : Answer.Safe (execAcBreakerOpen s) := by
  unfold execAcBreakerOpen
  exact Answer.Safe.ite (State.FeedersSafe.rectifier (h.same {}) (State.acOpenRect_only _)).answer h.answer

theorem execAcBreakerClosed_safe (h : s.FeedersSafe) : Answer.Safe (execAcBreakerClosed s) := by
  unfold execAcBreakerClosed
  have ht : ({ s with inputs := { s.inputs with acClosed := true } } : State).FeedersSafe := h.same {}
  generalize ({ s with inputs := { s.inputs with acClosed := true } } : State) = t at ht
  exact h.answer.ite (State.FeedersSafe.ite (ht.rectifier (t.abortGateTest_only.trans (State.enterStopped_only _ _))) ht).answer

theorem execEoffAsserted_safe (h : s.FeedersSafe) : Answer.Safe (execEoffAsserted s) := by
  unfold execEoffAsserted
  have ht : ({ s with inputs := { s.inputs with eoff := true } } : State).FeedersSafe := h.same {}
  generalize ({ s with inputs := { s.inputs with eoff := true } } : State) = t at ht
  have hrect := (ht.rectifier t.eoffRect_only).journal (State.absorberEdge_only _ s)
  exact h.answer.ite (State.FeedersSafe.onset (hrect.foldl feeders fun _ _ hx => hx.eoffFeeder)).settle.answer

theorem execEoffReleased_safe (h : s.FeedersSafe) : Answer.Safe (execEoffReleased s) := by
  unfold execEoffReleased
  have ht : ({ s with inputs := { s.inputs with eoff := false } } : State).FeedersSafe := h.same {}
  exact Answer.Safe.ite (ht.journal (State.absorberEdge_only _ _)).answer h.answer

theorem execBreakerPositionOpen_safe (h : s.FeedersSafe) : Answer.Safe (execBreakerPositionOpen f s) := by
  unfold execBreakerPositionOpen
  split
  · next hs => exact (h.contextOpens hs).activateBlocks.settle.answer
  · exact h.answer

theorem execBreakerPositionClosed_safe (h : s.FeedersSafe) : Answer.Safe (execBreakerPositionClosed f s) := by
  unfold execBreakerPositionClosed
  split
  · exact h.answer
  · next hs =>
    have hload : (s.loadBlank f).FeedersSafe := h.modDisc
    exact (hload.contextCloses (Bool.not_eq_true _ ▸ hs)).settle.answer

theorem execDeadTimeExpiry_safe (h : s.FeedersSafe) : Answer.Safe (execDeadTimeExpiry f s) := by
  unfold execDeadTimeExpiry
  split
  · exact h.answer
  next he =>
    have hrun := expired_isSome he
    split
    · exact (h.deadTimeExpires hrun).settle.answer
    · next hn => exact absurd ((h.ok f).sound.2.2.2.1.mp hrun) hn

theorem execCloseSupervisionExpiry_safe (h : s.FeedersSafe) : Answer.Safe (execCloseSupervisionExpiry f s) := by
  unfold execCloseSupervisionExpiry
  split
  · exact h.answer
  next he =>
    have hrun := expired_isSome he
    split
    · exact (h.closeExpires hrun).settle.answer
    · next hn => exact absurd ((h.ok f).sound.2.2.2.2.2.1.mp hrun) hn

theorem execReclaimExpiry_safe (h : s.FeedersSafe) : Answer.Safe (execReclaimExpiry f s) := by
  unfold execReclaimExpiry
  exact h.answer.ite h.reclaims.answer

theorem execFollowWaitExpiry_safe (h : s.FeedersSafe) : Answer.Safe (execFollowWaitExpiry f s) := by
  unfold execFollowWaitExpiry
  split
  · exact h.answer
  split
  · next hs => exact ((h.stopFollow.sees f).locked_safe (h.shows_false (by simp [hs]))).answer
  · exact h.stopFollow.answer

theorem execTripSupervisionExpiry_safe (h : s.FeedersSafe) : Answer.Safe (execTripSupervisionExpiry f s) := by
  unfold execTripSupervisionExpiry
  split
  · exact h.answer
  next he =>
    have hrun := expired_isSome he
    split
    · exact (h.escalates hrun).answer
    · next hn => exact absurd ((h.ok f).sound.2.2.2.2.1.mp hrun) hn

theorem execLineTestExpiry_safe (h : s.FeedersSafe) : Answer.Safe (execLineTestExpiry s) := by
  unfold execLineTestExpiry
  split
  · exact h.answer
  next he =>
    split
    · next f hf => exact (h.endTest hf).settle.answer
    · next hnone =>
      have hrun := (s.feedersSafe_iff.mp h).1.2.mp (expired_isSome he)
      rw [hnone] at hrun
      cases hrun

theorem execEarthSwitchClosed_safe (h : s.FeedersSafe) : Answer.Safe (execEarthSwitchClosed f s) := by
  unfold execEarthSwitchClosed
  exact h.answer.ite h.earth.append.announce.settle.answer

theorem execEarthSwitchOpened_safe (h : s.FeedersSafe) : Answer.Safe (execEarthSwitchOpened f s) := by
  unfold execEarthSwitchOpened
  exact Answer.Safe.ite h.unearth.append.announce.answer h.answer

theorem execSelectorChange_safe (h : s.FeedersSafe) (pos : Selector) : Answer.Safe (execSelectorChange pos s) := by
  unfold execSelectorChange
  exact h.answer.ite (State.FeedersSafe.append (h.same {})).answer

theorem execBadFrame_safe (h : s.FeedersSafe) (rx : Reception) : Answer.Safe (execBadFrame l rx s) := by
  unfold execBadFrame
  split
  · exact State.FeedersSafe.answer h.modLink
  · exact h.receive.answer

theorem execFrameTransmit_safe (h : s.FeedersSafe) : Answer.Safe (execFrameTransmit l s) := by
  unfold execFrameTransmit
  exact h.answer.ite h.transmitFrom.answer

theorem execHeartbeatExpiry_safe (h : s.FeedersSafe) : Answer.Safe (execHeartbeatExpiry l s) := by
  unfold execHeartbeatExpiry
  exact h.answer.ite h.modLink.ask.answer

theorem execLossTimerExpiry_safe (h : s.FeedersSafe) : Answer.Safe (execLossTimerExpiry l s) := by
  unfold execLossTimerExpiry
  exact h.answer.ite (Answer.Safe.ite h.modLink.answer h.loseLink.settle.answer)

theorem execRefreshExpiry_safe (h : s.FeedersSafe) : Answer.Safe (execRefreshExpiry l s) := by
  unfold execRefreshExpiry
  exact h.answer.ite (State.FeedersSafe.foldl h.modLink _ fun _ _ ht => ht.askFor).answer

theorem execRetryExpiry_safe (h : s.FeedersSafe) (i : Index) : Answer.Safe (execRetryExpiry l i s) := by
  unfold execRetryExpiry
  split
  · exact h.answer
  · exact (h.retryIntertrip.settle.ite h).answer

theorem execResetSilenceEnd_safe (h : s.FeedersSafe) : Answer.Safe (execResetSilenceEnd l s) := by
  unfold execResetSilenceEnd
  exact h.answer.ite h.modLink.ask.answer

theorem execSelectLow_safe (h : s.FeedersSafe) (p : Port) (bytes : List Byte) : Answer.Safe (execSelectLow p bytes s) := by
  unfold execSelectLow
  exact h.answer.ite h.lowerSelect.receiveBytes.answer

theorem execSelectRaised_safe (h : s.FeedersSafe) (p : Port) : Answer.Safe (execSelectRaised p s) := by
  unfold execSelectRaised
  exact Answer.Safe.ite h.raiseSelect.answer h.answer

theorem execResetLockoutFeeder_safe (h : s.FeedersSafe) (p : Port) (target : Byte) : Answer.Safe (execResetLockoutFeeder p target s) := by
  refine h.served (JudgeSafe.authorised (judge := fun s =>
    if target = 0 then s.resetRectifier else s.forFeeder target s.resetFeeder) (fun s hs => ?_) p)
  split
  · exact State.resetRectifier_safe s hs
  · exact judgeSafe_forFeeder State.resetFeeder_safe target s hs

theorem execWriteSetting_safe (h : s.FeedersSafe) (p : Port) (id : Byte) (value : BitVec 32) :
    Answer.Safe (execWriteSetting p id value s) := by
  refine h.served fun s hs => ?_
  split
  · exact State.writeSetting_safe p _ _ s hs
  · exact hs

theorem exec_safe (h : s.FeedersSafe) (c : Instr) : Answer.Safe (exec c s) := by
  cases c with
  | powerOnReset inp => exact (State.resetFrom_safe _ inp _).answer
  | warmReset inp => exact (State.resetFrom_safe _ inp _).answer
  | sampleSetArrival bytes => exact execSampleSetArrival_safe h bytes
  | sampleWatchdogExpiry => exact execSampleWatchdogExpiry_safe h
  | blindTimerExpiry => exact execBlindTimerExpiry_safe h
  | crossing width => exact execCrossing_safe h width
  | acquireDeadlineExpiry => exact (h.onDeadline h.toUnsync).answer
  | lockedDeadlineExpiry => exact (h.onDeadline h.lockedExpires).answer
  | holdoverDeadlineExpiry => exact (h.onDeadline h.holdoverExpires).answer
  | gatePulseStart g => exact execGatePulseStart_safe h g
  | gatePulseEnd g => exact execGatePulseEnd_safe h g
  | gateFeedback g => exact execGateFeedback_safe h g
  | startRectifier p => exact h.served (State.startRectifier_safe.authorised p)
  | stopRectifier p => exact h.served State.stopRectifier_safe
  | restartWindowExpiry => exact execRestartWindowExpiry_safe h
  | resetLockoutRectifier p => exact h.served (State.resetRectifier_safe.authorised p)
  | resetLockoutFeeder p target => exact execResetLockoutFeeder_safe h p target
  | acBreakerOpen => exact execAcBreakerOpen_safe h
  | acBreakerClosed => exact execAcBreakerClosed_safe h
  | eoffAsserted => exact execEoffAsserted_safe h
  | eoffReleased => exact execEoffReleased_safe h
  | gateTest p repeats skip => exact h.served ((State.gateTest_safe _ _).authorised p)
  | gateTestStepEnd => exact execGateTestStepEnd_safe h
  | gateTestDriveEnd => exact execGateTestDriveEnd_safe h
  | breakerPositionOpen f => exact execBreakerPositionOpen_safe h
  | breakerPositionClosed f => exact execBreakerPositionClosed_safe h
  | deadTimeExpiry f => exact execDeadTimeExpiry_safe h
  | closeSupervisionExpiry f => exact execCloseSupervisionExpiry_safe h
  | reclaimExpiry f => exact execReclaimExpiry_safe h
  | followWaitExpiry f => exact execFollowWaitExpiry_safe h
  | tripSupervisionExpiry f => exact execTripSupervisionExpiry_safe h
  | closeFeeder p feeder => exact h.served_settled ((judgeSafe_forFeeder State.closeFeeder_safe feeder).authorised p)
  | openFeeder p feeder => exact h.served_settled (judgeSafe_forFeeder State.openFeeder_safe feeder)
  | lineTestExpiry => exact execLineTestExpiry_safe h
  | placeBlock p sec tag openFirst => exact h.served_settled (judgeSafe_forFeeder (State.placeBlock_safe p tag openFirst) sec)
  | removeBlock p sec tag => exact h.served (judgeSafe_forFeeder (State.removeBlock_safe p tag) sec)
  | earthSwitchClosed f => exact execEarthSwitchClosed_safe h
  | earthSwitchOpened f => exact execEarthSwitchOpened_safe h
  | selectorChange pos => exact execSelectorChange_safe h pos
  | releaseHold p => exact h.served ((State.releaseHold_safe p).authorised p)
  | status l v => exact h.receive.answer
  | tripReq l i id => exact h.receive.answer
  | tripAck l i id => exact h.receive.answer
  | restored l i => exact h.receive.answer
  | lockout l i => exact h.receive.answer
  | blockAdd l i tag => exact h.receive.answer
  | blockDel l i tag => exact h.receive.answer
  | blockSet l i tags => exact h.receive.answer
  | badFrame l rx => exact execBadFrame_safe h rx
  | frameTransmit l => exact execFrameTransmit_safe h
  | heartbeatExpiry l => exact execHeartbeatExpiry_safe h
  | lossTimerExpiry l => exact execLossTimerExpiry_safe h
  | refreshExpiry l => exact execRefreshExpiry_safe h
  | retryExpiry l i => exact execRetryExpiry_safe h i
  | resetSilenceEnd l => exact execResetSilenceEnd_safe h
  | attachJournal p => exact h.served (State.attach_safe p)
  | detachJournal p => exact h.served (State.detach_safe p)
  | fetchEvent p => exact h.served (State.fetch_safe p)
  | setAttentionMask p mask => exact h.served (State.setMask_safe p mask)
  | readJournalState p => exact h.served (judgeSafe_answer State.journalBytes)
  | readRecord p slot first count => exact h.served (State.readRecord_safe _ _ _)
  | selectLow p bytes => exact execSelectLow_safe h p bytes
  | selectRaised p => exact execSelectRaised_safe h p
  | unknownCommand p code => exact h.served (judgeSafe_refuse _)
  | readStatus p => exact h.served (judgeSafe_answer fun s => s.statusBytes p)
  | readConditions p => exact h.served fun _ ht => ht.modPort
  | readMeasurements p => exact h.served (judgeSafe_answer State.measurementBytes)
  | readFeeder p feeder => exact h.served (judgeSafe_forFeeder (fun f => judgeSafe_answer fun s => s.feederBytes f) feeder)
  | readSection p sec => exact h.served (judgeSafe_forFeeder (fun f => judgeSafe_answer fun s => s.sectionBytes f) sec)
  | readRectifier p => exact h.served (judgeSafe_answer State.rectBytes)
  | readTracker p => exact h.served (judgeSafe_answer State.trackerBytes)
  | readLink p link => exact h.served (State.readLink_safe link)
  | readSetting p id => exact h.served (State.readSetting_safe _)
  | writeSetting p id value => exact execWriteSetting_safe h p id value

/-! ## Every step -/

theorem State.FeedersSafe.pending (h : s.FeedersSafe) (q : List Instr) : ({ s with pending := q } : State).FeedersSafe := h.same {}

theorem State.FeedersSafe.idle (h : s.FeedersSafe) : s.idle.FeedersSafe := by
  unfold State.idle
  split
  · exact h.modTrips.takeTrip.settle
  split
  · exact h.pending _
  · exact h.tick

end

/-- Settles O57: every command leaves the feeders safe, and so do a taken trip request and a tick. -/
theorem feedersStaySafe : Obligations.FeedersStaySafe := by
  intro s t hs ht
  unfold step at ht
  cases hp : s.pending with
  | nil =>
    rw [hp] at ht
    exact Host.Outcome.next.inj ht ▸ hs.idle
  | cons c rest =>
    rw [hp] at ht
    exact exec_safe (hs.pending rest) c t ht

end Sys2Proof.Machine
end


section
/-! PROOFS. The reset state is the one that a power-on reset with quiet inputs reaches, and it has every invariant. -/

-- One text with the model: proofs elaborated side by side would need more threads than the check's memory holds.
set_option Elab.async false

namespace Sys2Proof.Machine

theorem State.reset_units : State.reset.resetUnits Inputs.quiet .powerOn = State.reset := by
  decide

/-- With every breaker open nothing is judged. -/
theorem State.judgeFound_of_open {s : State} {f : Feeder} (h : s.shows f = false) : s.judgeFound f = s := by
  simp [State.judgeFound, h]

theorem State.resetFrom_quiet (k : State) (kind : Detail) : k.resetFrom Inputs.quiet kind = k.resetUnits Inputs.quiet kind := by
  have hopen (f : Feeder) : (k.resetUnits Inputs.quiet kind).shows f = false := by
    simp [State.resetUnits, State.shows, Inputs.quiet]
  exact List.foldlRecOn (motive := fun t : State => t = k.resetUnits Inputs.quiet kind) feeders _ rfl
    fun t ht f _ => by rw [ht]; exact State.judgeFound_of_open (hopen f)

theorem State.reset_from : State.reset.resetFrom Inputs.quiet .powerOn = State.reset := by
  rw [State.resetFrom_quiet, State.reset_units]

/-- The trip requests on their way and the queue are not reset. -/
theorem State.reset_keeps (late : List Bool) (q : List Instr) :
    ({ State.reset with trips := ⟨[], late⟩, pending := q } : State).resetUnits Inputs.quiet .powerOn
      = { State.reset.resetUnits Inputs.quiet .powerOn with trips := ⟨[], late⟩, pending := q } := rfl

/-- Settles O60: the reset state is the outcome of a reset, after which every invariant holds. -/
theorem resetStateIsSound : Obligations.ResetStateIsSound := by
  have hkeeps := (State.resetFrom_logs State.reset Inputs.quiet .powerOn).keeps
  have hsafe := State.resetFrom_safe State.reset Inputs.quiet .powerOn
  rw [State.reset_from] at hkeeps hsafe
  obtain ⟨hnum, hcur, hrec⟩ := State.reset.journalSound_iff.mp (hkeeps.journal (State.resetUnits_journalSound _ _ _))
  refine ⟨hkeeps.gates (State.resetUnits_gatesAllowed _ _ _), hsafe, hnum, hcur, hrec,
    hkeeps.map (State.resetUnits_follows _ _ _), hkeeps.conditions (State.resetUnits_conditions _ _ _), rfl, fun s => ?_⟩
  change execPowerOnReset Inputs.quiet s = _
  unfold execPowerOnReset
  rw [State.resetFrom_quiet, State.reset_keeps, State.reset_units]

end Sys2Proof.Machine
end


section
/-! PROOFS. The queue, the resets, the sample unit and the tracker, command by command (01, 02). -/

-- One text with the model: proofs elaborated side by side would need more threads than the check's memory holds.
set_option Elab.async false

namespace Sys2Proof.Machine

/-! ## The queue -/

/-- Settles O1, by the definition of a step. -/
theorem stepRunsTheFrontCommand : Obligations.StepRunsTheFrontCommand := fun _ _ _ => rfl

theorem step_of_empty {s : State} (h : s.pending = []) : step s = .next s.idle := by
  unfold step
  rw [h]

theorem LinkUnit.tick_idx (k : LinkUnit) :
    k.tick.idx = k.idx.map fun x => { x with out := x.out.map fun o => { o with retry := o.retry - 1 } } := by
  ext1 i hi
  simp [LinkUnit.tick]

theorem Clock.tick_eq (c : Clock) : c.tick = if c.sub + 1 < 10000 then ⟨c.stamp + 1, c.ms, c.sub + 1⟩ else ⟨c.stamp + 1, c.ms + 1, 0⟩ := by
  unfold Clock.tick
  by_cases h : c.sub + 1 < 10000
  · rw [if_neg (by rw [Config.ticksPerMs]; omega), if_pos h]
  · rw [if_pos (by rw [Config.ticksPerMs]; omega), if_neg h]

theorem State.tick_ctx (s : State) : s.tick.ctx = s.ctx.map Context.tick := by
  ext1 i hi
  simp [State.tick]

theorem LinkUnit.tick_eq (k : LinkUnit) : k.tick =
    { k with
      silence := tickDown k.silence, heartbeat := tickDown k.heartbeat, loss := tickDown k.loss, refresh := tickDown k.refresh
      idx := k.idx.map fun x => { x with out := x.out.map fun o => { o with retry := o.retry - 1 } } } := by
  rw [← k.tick_idx]
  rfl

/-- Settles O2, by the three cases of an idle step. -/
theorem emptyQueuePassesTime : Obligations.EmptyQueuePassesTime := by
  intro s hs
  refine ⟨fun r rest hcalls => ?_, fun c rest hcalls hdue => ?_, fun hcalls hdue => ?_⟩
  · rw [step_of_empty hs, State.idle, hcalls]
    rfl
  · rw [step_of_empty hs, State.idle, hcalls]
    simp only [hdue]
  · rw [step_of_empty hs, State.idle, hcalls]
    simp only [hdue]
    have hu := s.links.u.tick_eq
    have hd := s.links.d.tick_eq
    have htick : s.tick = { s.tick with time := s.time.tick, ctx := s.tick.ctx, links := ⟨s.links.u.tick, s.links.d.tick⟩ } := rfl
    rw [htick, s.time.tick_eq, s.tick_ctx, hu, hd]
    rfl

/-! ## The resets (09 R172) -/

/-- A context as the end of a reset leaves it (05 R103). -/
def State.judged (s : State) (f : Feeder) (c : Context) : Context :=
  if s.shows f && (s.barred f || s.inputs.eoff) then c.toTripping .interlock .opened (some (msTicks (s.g .tripTimeMax))) none else c

theorem State.judged_judged (s : State) (f : Feeder) (c : Context) : s.judged f (s.judged f c) = s.judged f c := by
  unfold State.judged
  split <;> rfl

theorem State.judgeFound_modCtx (s : State) (f : Feeder) : s.judgeFound f = s.modCtx f (s.judged f) := by
  rw [State.judgeFound_eq]
  unfold State.judged
  split
  · rfl
  · simp [State.modCtx]

/-- The judgements of a list of feeders change nothing but the contexts of those feeders. -/
theorem State.judgeFounds_eq (fs : List Feeder) (s : State) : fs.foldl State.judgeFound s =
    { s with ctx := Vector.ofFn fun f => if f ∈ fs then s.judged f s.ctx[f] else s.ctx[f] } := by
  induction fs generalizing s with
  | nil =>
    have hctx : (Vector.ofFn fun f : Feeder => s.ctx[f]) = s.ctx := by ext1 i hi; simp
    simp only [List.foldl_nil, List.not_mem_nil, if_false, hctx]
  | cons e rest ih =>
    rw [List.foldl_cons, ih, State.judgeFound_modCtx]
    have hctx : (Vector.ofFn fun f => if f ∈ rest then (s.modCtx e (s.judged e)).judged f (s.modCtx e (s.judged e)).ctx[f]
        else (s.modCtx e (s.judged e)).ctx[f])
        = Vector.ofFn fun f => if f ∈ e :: rest then s.judged f s.ctx[f] else s.ctx[f] := by
      congr 1
      funext f
      have hj : (s.modCtx e (s.judged e)).judged f = s.judged f := rfl
      rw [hj, State.modCtx_get]
      by_cases hef : e = f
      · subst hef
        simp only [if_true, List.mem_cons, true_or, s.judged_judged, ite_self]
      · simp only [hef, if_false, List.mem_cons, Ne.symm hef, false_or]
    rw [hctx]
    rfl

theorem State.resetFrom_eq (k : State) (inp : Inputs) (kind : Detail) : k.resetFrom inp kind =
    { k.resetUnits inp kind with
      ctx := Vector.ofFn fun f => (k.resetUnits inp kind).judged f (k.resetUnits inp kind).ctx[f] } := by
  unfold State.resetFrom
  rw [State.judgeFounds_eq]
  congr 2
  funext f
  rw [if_pos (by revert f; decide)]

theorem State.resetFrom_ctx (k : State) (inp : Inputs) (kind : Detail) (f : Feeder) : (k.resetFrom inp kind).ctx[f] =
    if inp.breaker[f] && (inp.earth[f] || !k.sections[f].blocks.isEmpty || !k.sections[f].peers.isEmpty
        || k.sections[f].overflow || inp.eoff) then
      { Context.reset true with
        state := .tripping, lastTrip := some .interlock, disp := some .opened
        tripTimer := some (msTicks (k.g .tripTimeMax)) }
    else Context.reset inp.breaker[f] := by
  have hctx : (k.resetFrom inp kind).ctx[f] = (k.resetUnits inp kind).judged f (k.resetUnits inp kind).ctx[f] := by
    rw [k.resetFrom_eq]
    simp only [Fin.getElem_fin, Vector.getElem_ofFn]
  have hbar : (k.resetUnits inp kind).barred f = (inp.earth[f] || !k.sections[f].blocks.isEmpty || !k.sections[f].peers.isEmpty
      || k.sections[f].overflow) := by
    simp only [State.barred, k.resetUnits_section, Section.afterReset, Section.reset, Section.holdsLocal, Section.holdsPeer,
      List.isEmpty_map, Bool.or_assoc]
    rfl
  have hunit : (k.resetUnits inp kind).ctx[f] = Context.reset inp.breaker[f] := by simp [State.resetUnits]
  rw [hctx, hunit]
  unfold State.judged
  have hshows : (k.resetUnits inp kind).shows f = inp.breaker[f] := rfl
  have heoff : (k.resetUnits inp kind).inputs.eoff = inp.eoff := rfl
  rw [hbar, hshows, heoff]
  split
  · next hx =>
    have hb : inp.breaker[f] = true := by
      rw [Bool.and_eq_true] at hx
      exact hx.1
    rw [hb]
    rfl
  · rfl

/-- The conditions that are present after a reset (10 R186). -/
theorem State.resetUnits_present (k : State) (inp : Inputs) (kind : Detail) (b : Latch) : (k.resetUnits inp kind).present b =
    match b with
    | .resetSeen | .poolEmpty | .journalLost | .settingsClamped => false
    | .syncNotLocked | .measBlind | .startHold => true
    | .linkUDown => feeders.any fun f => (k.settings.mapping f).any fun m => m.link = .u
    | .linkDDown => feeders.any fun f => (k.settings.mapping f).any fun m => m.link = .d
    | .uncoordinated => feeders.any fun f => (k.settings.mapping f).isSome
    | .absorberHot => k.rect.hot
    | .eoffActive => inp.eoff := by
  have hmap (f : Feeder) : (k.resetUnits inp kind).sections[f].mapping = k.settings.mapping f := k.resetUnits_follows inp kind f
  have hcoord (f : Feeder) : ((k.resetUnits inp kind).sections[f].mapping.isSome
      && (k.resetUnits inp kind).sections[f].coord != .coordinated) = (k.settings.mapping f).isSome := by
    rw [k.resetUnits_section]
    simp only [Section.afterReset, Section.reset]
    cases k.settings.mapping f <;> rfl
  cases b with
  | linkUDown => simp only [State.present, State.mappedTo, hmap]; rfl
  | linkDDown => simp only [State.present, State.mappedTo, hmap]; rfl
  | uncoordinated => simp only [State.present, hcoord]
  | _ => rfl

/-- The word of the conditions after a reset, RESET_SEEN and the map loss, by the six that vary. -/
theorem freshWord_of (u d c h m e : Bool) (pres : Latch → Bool) (hu : pres .linkUDown = u) (hd : pres .linkDDown = d)
    (hc : pres .uncoordinated = c) (hh : pres .absorberHot = h) (he : pres .eoffActive = e)
    (hset : pres .syncNotLocked = true ∧ pres .measBlind = true ∧ pres .startHold = true)
    (hclear : pres .resetSeen = false ∧ pres .poolEmpty = false ∧ pres .journalLost = false ∧ pres .settingsClamped = false) :
    (latches.foldl (fun w b => if pres b then w ||| b.bit else w) (0 : BitVec 16)) ||| Latch.resetSeen.bit
        ||| (if m then Latch.settingsClamped.bit else 0)
      = 0x0807 ||| (if u then 0x0008 else 0) ||| (if d then 0x0010 else 0) ||| (if c then 0x0020 else 0)
        ||| (if h then 0x0040 else 0) ||| (if m then 0x0200 else 0) ||| (if e then 0x0400 else 0) := by
  simp only [latches, List.foldl_cons, List.foldl_nil, hu, hd, hc, hh, he, hset, hclear, if_true, Bool.false_eq_true, if_false]
  clear hu hd hc hh he hset hclear
  revert u d c h m e
  decide

theorem State.resetUnits_port (k : State) (inp : Inputs) (kind : Detail) (p : Port) : (k.resetUnits inp kind).ports.get p =
    ⟨.idle, [], false,
      0x0807 ||| (if feeders.any fun f => (k.settings.mapping f).any fun m => m.link = .u then 0x0008 else 0)
        ||| (if feeders.any fun f => (k.settings.mapping f).any fun m => m.link = .d then 0x0010 else 0)
        ||| (if feeders.any fun f => (k.settings.mapping f).isSome then 0x0020 else 0)
        ||| (if k.rect.hot then 0x0040 else 0) ||| (if k.settings.mapLoss then 0x0200 else 0)
        ||| (if inp.eoff then 0x0400 else 0), 0, []⟩ := by
  have hword : (k.resetUnits inp kind).freshWord = _ := freshWord_of _ _ _ _ k.settings.mapLoss _ (k.resetUnits inp kind).present
    (k.resetUnits_present inp kind .linkUDown) (k.resetUnits_present inp kind .linkDDown)
    (k.resetUnits_present inp kind .uncoordinated) (k.resetUnits_present inp kind .absorberHot)
    (k.resetUnits_present inp kind .eoffActive) ⟨rfl, rfl, rfl⟩ ⟨rfl, k.resetUnits_present inp kind .poolEmpty, rfl, rfl⟩
  have hport : (k.resetUnits inp kind).ports.get p = PortUnit.reset (k.resetUnits inp kind).freshWord := by cases p <;> rfl
  rw [hport, hword]
  rfl

theorem Settings.defaults_mapping (f : Feeder) : Settings.defaults.mapping f = none := by
  revert f
  decide

/-- After a power-on reset the units are those of the reset state, whatever the inputs. -/
theorem State.powerOn_units {late : List Bool} {q : List Instr} {k : State} (inp : Inputs)
    (hk : k = { State.reset with trips := ⟨[], late⟩, pending := q }) :
    (k.resetUnits inp .powerOn).sample = State.reset.sample ∧ (k.resetUnits inp .powerOn).rect = State.reset.rect
      ∧ (k.resetUnits inp .powerOn).disc = State.reset.disc := by
  have hreset := State.reset_units
  subst hk
  have hsample : (State.reset.resetUnits Inputs.quiet .powerOn).sample = State.reset.sample := by rw [hreset]
  have hrect : (State.reset.resetUnits Inputs.quiet .powerOn).rect = State.reset.rect := by rw [hreset]
  have hdisc : (State.reset.resetUnits Inputs.quiet .powerOn).disc = State.reset.disc := by rw [hreset]
  exact ⟨hsample, hrect, hdisc⟩

/-- Settles O4: the units of the reset state, and the feeders found closed under a bar or EOFF. -/
theorem powerOnResetLeaves : Obligations.PowerOnResetLeaves := by
  intro inp s
  refine ⟨_, rfl, ?_⟩
  generalize hk : ({ State.reset with trips := ⟨[], s.trips.late⟩, pending := s.pending } : State) = k
  obtain ⟨hsample, hrect, hdisc⟩ := State.powerOn_units inp hk.symm
  have hset : k.settings = Settings.defaults := hk ▸ rfl
  have hmap (f : Feeder) : k.settings.mapping f = none := hset ▸ Settings.defaults_mapping f
  have hsec (f : Feeder) : k.sections[f] = Section.reset none [] [] false := by rw [← hk]; simp [State.reset]
  have hsections : (k.resetUnits inp .powerOn).sections = Vector.replicate 6 (Section.reset none [] [] false) := by
    ext1 i hi
    have := k.resetUnits_section inp .powerOn ⟨i, hi⟩
    rw [hsec, hmap] at this
    rw [Vector.getElem_replicate]
    exact this
  have hports (p : Port) : (k.resetUnits inp .powerOn).ports.get p
      = ⟨.idle, [], false, 0x0807 ||| (if inp.eoff then 0x0400 else 0), 0, []⟩ := by
    have hloss : k.settings.mapLoss = false := by rw [hset]; decide
    have hhot : k.rect.hot = false := hk ▸ rfl
    rw [k.resetUnits_port]
    simp only [hmap, hloss, hhot, Option.any_none, Option.isSome_none, Bool.false_eq_true, if_false]
    cases inp.eoff <;> rfl
  have hctx (f : Feeder) := k.resetFrom_ctx inp .powerOn f
  have hticks : msTicks (k.g .tripTimeMax) = 800000 := by simp only [State.g, hset]; decide
  simp only [hsec, hticks, Section.reset, List.isEmpty_nil, Bool.not_true, Bool.or_false] at hctx
  have htrips : k.trips = ⟨[], s.trips.late⟩ ∧ k.pending = s.pending ∧ k.time.stamp = 0 ∧ k.tracker.period = none := by
    rw [← hk]; exact ⟨rfl, rfl, rfl, rfl⟩
  obtain ⟨htrips, hpending, hstamp, hperiod⟩ := htrips
  rw [k.resetFrom_eq] at hctx ⊢
  refine ⟨rfl, ?_, hsample, ?_, hrect, hdisc, rfl, hsections, rfl, rfl, rfl, rfl, rfl, hset, ?_, hpending, hports, hctx⟩
  · exact congrArg (fun x => (⟨x, 0, 0⟩ : Clock)) hstamp
  · exact congrArg Tracker.reset hperiod
  · have hlate : k.trips.late = s.trips.late := by rw [htrips]
    exact congrArg (fun x => (⟨[], x⟩ : TripQueue)) hlate

/-- Settles O5: what a warm reset keeps goes into the units, and the feeders found closed are judged. -/
theorem warmResetKeeps : Obligations.WarmResetKeeps := by
  intro inp s
  refine ⟨_, rfl, ?_⟩
  have hctx (f : Feeder) := s.resetFrom_ctx inp .warm f
  have hdisc (f : Feeder) : (s.resetUnits inp .warm).disc[f] = Disc.reset s.disc[f].fine := by simp [State.resetUnits]
  rw [s.resetFrom_eq] at hctx ⊢
  refine ⟨rfl, rfl, rfl, rfl, rfl, rfl, rfl, rfl, hdisc, rfl, fun f => ?_, rfl, rfl, rfl, rfl, rfl, s.resetUnits_port inp .warm, hctx⟩
  exact s.resetUnits_section inp .warm f

end Sys2Proof.Machine
end


section
/-! PROOFS. The sample unit and the tracker, command by command (01, 02). -/

-- One text with the model: proofs elaborated side by side would need more threads than the check's memory holds.
set_option Elab.async false

namespace Sys2Proof.Machine

/-! ## The delivery of a set (01 R9) -/

theorem State.offerTrips_eq_foldl (s : State) {offer : State → TripCall → State} (h : ∀ t r, offer t r = t.offerTrip r) :
    s.offerTrips = s.trips.calls.foldl offer { s with trips := ⟨[], s.trips.late⟩ } := by
  obtain rfl : offer = State.offerTrip := funext fun t => funext (h t)
  rfl

theorem SampleSet.row_eq (x : SampleSet) (mark : Bool) :
    x.row mark = ⟨x.seq, mark, Vector.ofFn fun f => condition (chI f) x.codes[chI f], condition chBus x.codes[chBus]⟩ := by
  simp [SampleSet.row, SampleSet.conditioned]

/-- The delivery as one chain, whatever names its steps have been given. -/
theorem State.deliver_eq (s : State) (x : SampleSet) (mark : Bool) {offer : State → TripCall → State}
    (hoffer : ∀ t r, offer t r = t.offerTrip r) {row : RingRow} (hrow : x.row mark = row) {seen : State}
    (hseen : ((s.modSample fun u => u.deliver row).discriminate mark).fillSlots row = seen) :
    s.deliver x mark =
      (seen.trips.calls.foldl offer { seen with trips := ⟨[], seen.trips.late⟩ }).addSums.busStep.absorber := by
  subst hrow hseen
  rw [State.deliver, State.offerTrips_eq_foldl _ hoffer]

theorem State.evaluate_sample (s : State) (f : Feeder) (mark : Bool) : (s.evaluate f mark).sample = s.sample := by
  obtain ⟨t, ht, heq⟩ := s.evaluate_only f mark
  rw [heq, State.handOver_eq]
  exact ht.sample

theorem State.discriminate_sample (s : State) (mark : Bool) : (s.discriminate mark).sample = s.sample :=
  List.foldlRecOn (motive := fun t : State => t.sample = s.sample) feeders _ rfl
    fun t ht f _ => (t.evaluate_sample f mark).trans ht

theorem State.offerTrips_sample (s : State) : s.offerTrips.sample = s.sample := by
  obtain ⟨q, hq⟩ := s.offerTrips_only
  exact hq.sample

theorem State.busTrip_sample (s : State) (d : Int) : (s.busTrip d).sample = s.sample := by
  unfold State.busTrip
  split
  · rfl
  · rw [(State.append_only _ _ _ _ _).sample,
      (State.SequencerOnly.foldl (fun t f => t.tripRequest_only f _ _ _ _) feeders _).sample,
      (s.blockRequest_only _ _).sample]

theorem State.declareBusFault_sample (s : State) (d : Int) : (s.declareBusFault d).sample = s.sample := by
  unfold State.declareBusFault
  split
  · exact s.busTrip_sample d
  · unfold State.busAlarm
    split
    · rfl
    · exact (s.append_only .busFault .none .busAlarm d).sample
  · rfl

theorem State.busStep_sample (s : State) : s.busStep.sample = s.sample := by
  have hdiff := s.busDifferential_only.sample
  unfold State.busStep
  split
  next d t heq => rw [heq] at hdiff; exact (t.declareBusFault_sample d).trans hdiff
  next t heq => rw [heq] at hdiff; exact hdiff

/-- Only the first step of a delivery, the rings, changes the sample unit. -/
theorem State.deliver_sample (s : State) (x : SampleSet) (mark : Bool) :
    (s.deliver x mark).sample = s.sample.deliver (x.row mark) := by
  unfold State.deliver
  rw [(State.absorber_only _).sample, State.busStep_sample, (State.addSums_only _).sample, State.offerTrips_sample,
    (State.fillSlots_only _ _).sample, State.discriminate_sample, State.modSample_sample]

theorem SampleUnit.deliver_resume (u : SampleUnit) (row : RingRow) : (u.deliver row).resume = u.resume := rfl

theorem SampleUnit.deliver_state (u : SampleUnit) (row : RingRow) : (u.deliver row).state = u.state := rfl

theorem SampleUnit.deliver_blindTimer (u : SampleUnit) (row : RingRow) : (u.deliver row).blindTimer = u.blindTimer := rfl

theorem SampleUnit.deliver_rings_last (u : SampleUnit) (row : RingRow) : (u.deliver row).rings.getLast? = some row :=
  List.getLast?_concat

/-- Settles O9, by the delivery as one chain. -/
theorem liveSetIsDeliveredInOrder : Obligations.LiveSetIsDeliveredInOrder := by
  intro bytes s x hx hlive gap a row b seen offered
  have htake : s.takeSet x = a.deliver x gap := if_pos hlive
  have hdeliver : a.deliver x gap = offered.addSums.busStep.absorber :=
    a.deliver_eq x gap (fun t r => by unfold State.offerTrip; rcases t.trips.late with _ | ⟨_ | _, _⟩ <;> rfl)
      (x.row_eq gap) rfl
  exact (execSampleSetArrival_taken s hx).trans (by rw [htake, hdeliver])

/-! ## Resumption (01 R7) -/

theorem State.modSample_modSample (s : State) (g h : SampleUnit → SampleUnit) :
    (s.modSample g).modSample h = s.modSample fun u => h (g u) := rfl

/-- Up to its entry to LIVE, a set taken in BLIND changes the sample unit as `SampleUnit.taken` says, and counts. -/
theorem State.checkChannels_taken (s : State) (x : SampleSet) (n : Nat) :
    (s.modSample fun u => { u.taken x with resume := n }).SequencerOnly
      (((s.modSample fun u => u.takeSet x).checkChannels).modSample fun u => { u with resume := n }) := by
  have h := (State.checkChannels_only (s.modSample fun u => u.takeSet x)).modSample fun u => { u with resume := n }
  rw [State.modSample_modSample, State.modSample_modSample] at h
  exact h

theorem State.resume_eq (s : State) (gap : Bool) {n : Nat} (h : s.sample.resumeNext gap = n) :
    s.resume gap = if 4 ≤ n then (s.modSample fun u => { u with resume := n }).enterLive
      else s.modSample fun u => { u with resume := n } := by
  subst h
  rfl

theorem State.takeSet_of_blind {s : State} (x : SampleSet) (h : s.sample.state ≠ .live) {t : State}
    (ht : ((s.modSample fun u => u.takeSet x).checkChannels).resume (s.sample.outOfSequence x.seq) = t) :
    s.takeSet x = if t.sample.state = .live then t.deliver x true else t := by
  subst ht
  unfold State.takeSet
  exact if_neg h

theorem State.checkChannels_resume (s : State) (x : SampleSet) :
    ((s.modSample fun u => u.takeSet x).checkChannels).sample.resume = s.sample.resume := by
  rw [(State.checkChannels_only _).sample, State.modSample_sample, State.modSample_sample, SampleUnit.checks_eq,
    SampleUnit.takeSet]

theorem State.enterLive_sample (s : State) :
    s.enterLive.sample = { s.sample with state := .live, blindTimer := none } := by
  unfold State.enterLive
  rw [(State.append_only _ _ _ _ _).sample, (State.tryRestart_only _).sample, State.modSample_sample]

/-- Settles O8, by the resume count that the checks leave and by the frames of the entry to LIVE and of the delivery. -/
theorem setTakenInBlindAdvancesResumption : Obligations.SetTakenInBlindAdvancesResumption := by
  intro bytes s x hx hblind n a live row b seen offered
  have ha : (s.modSample fun u => { u.taken x with resume := n }).SequencerOnly a := s.checkChannels_taken x n
  have hn : ((s.modSample fun u => u.takeSet x).checkChannels).sample.resumeNext (s.sample.outOfSequence x.seq) = n := by
    rw [SampleUnit.resumeNext, s.checkChannels_resume x]
    rfl
  have hunit : live.sample = { a.sample with state := .live, blindTimer := none } := a.enterLive_sample
  have hsample : a.sample = { s.sample.taken x with resume := n } := ha.sample
  rw [s.sample.taken_eq x] at hsample
  have hstate : a.sample.state = .blind := by rw [hsample]; exact hblind
  have htake : s.takeSet x = if 4 ≤ n then live.deliver x true else a := by
    have hresume := State.resume_eq _ (s.sample.outOfSequence x.seq) hn
    by_cases hfour : 4 ≤ n
    · rw [if_pos hfour] at hresume ⊢
      exact (State.takeSet_of_blind x (by rw [hblind]; decide) hresume).trans (if_pos (by rw [a.enterLive_sample]))
    · rw [if_neg hfour] at hresume ⊢
      exact (State.takeSet_of_blind x (by rw [hblind]; decide) hresume).trans (if_neg (by rw [hstate]; decide))
  refine ⟨_, execSampleSetArrival_taken s hx, ?_⟩
  rw [htake]
  by_cases hn : 4 ≤ n
  · rw [if_pos hn]
    have hlive : ((live.deliver x true).settle).sample = live.sample.deliver (x.row true) := by
      rw [(State.settle_only _).sample, State.deliver_sample]
    refine ⟨by rw [hlive, SampleUnit.deliver_resume, hunit, hsample], fun h => absurd hn (by omega), fun _ => ⟨?_, ?_, ?_, ?_⟩⟩
    · exact congrArg State.settle (live.deliver_eq x true
        (fun t r => by unfold State.offerTrip; rcases t.trips.late with _ | ⟨_ | _, _⟩ <;> rfl) (x.row_eq true) rfl)
    · rw [hlive, SampleUnit.deliver_state, hunit]
    · rw [hlive, SampleUnit.deliver_blindTimer, hunit]
    · rw [hlive, SampleUnit.deliver_rings_last, x.row_eq true]
  · rw [if_neg hn]
    have hset := a.settle_only.sample.trans hsample
    refine ⟨by rw [hset], fun _ => ⟨rfl, ?_, ?_, ?_, ?_, ?_, ?_⟩, fun h => absurd h hn⟩
    · rw [hset]; exact hblind
    · rw [hset]; rfl
    · rw [hset]; rfl
    · rw [hset]; rfl
    · rw [a.settle_only.disc, ha.disc, State.modSample_disc]
    · rw [a.settle_only.rect, ha.rect, State.modSample_rect]

/-! ## The channel failure check (01 R4) -/

theorem actionOf_eq_trip_iff (v : Int) : actionOf v = .trip ↔ v = 0 := by
  unfold actionOf
  split_ifs <;> simp_all

/-- Settles O10, by the four cases of the check. -/
theorem channelFailureActs : Obligations.ChannelFailureActs := by
  intro s f run setTo
  unfold State.checkChannel
  refine ⟨fun hfailed hrun => ?_, fun hfailed hrun => ?_, fun hfailed hrun => ?_, fun hfailed hrun => ?_⟩
  · rw [if_neg (by rw [hfailed]; decide), if_pos (show Config.failedRun ≤ _ from hrun), State.channelFails]
    simp only [actionOf_eq_trip_iff]
    rfl
  · rw [if_pos hfailed, if_pos hrun]
    rfl
  · exact (if_neg (by rw [hfailed]; decide)).trans (if_neg (Nat.not_le.mpr hrun))
  · exact (if_pos hfailed).trans (if_neg hrun)

end Sys2Proof.Machine
end


section
/-! PROOFS. The tracker's crossings and deadlines, and the blind action (01 R8; 02). -/

-- One text with the model: proofs elaborated side by side would need more threads than the check's memory holds.
set_option Elab.async false

namespace Sys2Proof.Machine

/-! ## What the tracker reports (02 R26, R27) -/

theorem State.reportSync_eq (s : State) (was : TrackerState) (c : SyncChange) (v : Int) (x : Option Instant) :
    s.reportSync was c v x = ((s.append .syncState .none (.sync c) v).onsetIf (was = .locked) .syncNotLocked).notice
      ⟨s.tracker.state, x, s.tracker.period⟩ := by
  rw [State.reportSync, State.handOn]
  simp only [State.onsetIf_tracker, State.append_tracker]

theorem State.reportSync_of_ne (s : State) {was : TrackerState} (h : was ≠ .locked) (c : SyncChange) (v : Int)
    (x : Option Instant) : s.reportSync was c v x =
      (s.append .syncState .none (.sync c) v).notice ⟨s.tracker.state, x, s.tracker.period⟩ := by
  rw [State.reportSync_eq, decide_eq_false h]
  rfl

theorem State.reportSync_of_locked (s : State) (c : SyncChange) (v : Int) (x : Option Instant) :
    s.reportSync .locked c v x =
      ((s.append .syncState .none (.sync c) v).onset .syncNotLocked).notice ⟨s.tracker.state, x, s.tracker.period⟩ := by
  rw [State.reportSync_eq]
  rfl

/-! ## Crossings (02 R15 to R25) -/

/-- The state of the tracker in the obligations' words: a record in place of a function on the tracker. -/
theorem State.modTracker_eq (s : State) (g : Tracker → Tracker) : s.modTracker g = { s with tracker := g s.tracker } := rfl

theorem State.crossUnsync_eq (s : State) (t : Stamp) :
    s.crossUnsync t =
      (({ s with tracker := { s.tracker with
            state := .acquire, prev := some t, good := 0, holdover := 0
            deadline := some (s.acquireDeadline t) } } : State).append .syncState .none (.sync .firstCrossing) 0).notice
        ⟨.acquire, none, s.tracker.period⟩ := by
  rw [State.crossUnsync, State.reportSync_of_ne _ (by decide)]
  rfl

theorem State.completeLock_eq (s : State) (t : Stamp) (p e : Int) :
    s.completeLock t p e =
      (({ s with tracker := { s.tracker with
            state := .locked, period := some p, good := 4, holdover := 0
            deadline := some (s.lockedDeadline t p) } } : State).append .syncState .none (.sync .lockComplete) e).notice
        ⟨.locked, some ⟨t, false⟩, some p⟩ := by
  rw [State.completeLock, State.reportSync_of_ne _ (by decide)]
  rfl

theorem State.crossAcquire_eq (s : State) (t : Stamp) (measured : Nat) :
    s.crossAcquire t measured =
      if (measured : Int) < 181818 ∨ 222222 < (measured : Int) then
        { s with tracker := { s.tracker with
          ranges := satInc 65535 s.tracker.ranges, good := 0, deadline := some (s.acquireDeadline t) } }
      else if s.tracker.period = none then
        { s with tracker := { s.tracker with
          period := some (measured : Int), good := 0, deadline := some (s.acquireDeadline t) } }
      else if ((s.tracker.error measured).natAbs : Int) ≤ s.g .lockWindow then
        if s.tracker.good + 1 < 4 then
          { s with tracker := { s.tracker with
            period := some (s.correction measured), good := s.tracker.good + 1
            deadline := some (s.acquireDeadline t) } }
        else
          (({ s with tracker := { s.tracker with
              state := .locked, period := some (s.correction measured), good := 4, holdover := 0
              deadline := some (s.lockedDeadline t (s.correction measured)) } } : State).append .syncState .none
            (.sync .lockComplete) (s.tracker.error measured)).notice
            ⟨.locked, some ⟨t, false⟩, some (s.correction measured)⟩
      else
        { s with tracker := { s.tracker with
          period := some (s.correction measured), good := 0, deadline := some (s.acquireDeadline t) } } := by
  unfold State.crossAcquire
  refine if_congr Iff.rfl rfl (if_congr Option.isNone_iff_eq_none rfl (if_congr Iff.rfl ?_ rfl))
  by_cases h : s.tracker.good + 1 < 4
  · exact (if_neg (Nat.not_le.mpr h)).trans (if_pos h).symm
  · exact (if_pos (Nat.not_lt.mp h)).trans ((State.completeLock_eq _ _ _ _).trans (if_neg h).symm)

theorem State.crossLocked_eq (s : State) (t : Stamp) (measured : Nat) :
    s.crossLocked t measured =
      if ((s.tracker.error measured).natAbs : Int) ≤ s.settings.hold' then
        ({ s with tracker := { s.tracker with
            period := some (s.correction measured)
            deadline := some (s.lockedDeadline t (s.correction measured)) } } : State).notice
          ⟨s.tracker.state, some ⟨t, false⟩, some (s.correction measured)⟩
      else
        ((({ s with tracker := { s.tracker with
            state := .acquire, good := 0, slips := satInc 65535 s.tracker.slips
            deadline := some (s.acquireDeadline t) } } : State).append .syncState .none (.sync .slip)
          (s.tracker.error measured)).onset .syncNotLocked).notice ⟨.acquire, none, s.tracker.period⟩ := by
  unfold State.crossLocked State.withinHold
  simp only [State.reportSync_of_locked, decide_eq_true_eq]
  rfl

theorem State.crossHoldover_eq (s : State) (t : Stamp) (measured : Nat) :
    s.crossHoldover t measured =
      if ((s.tracker.error measured).natAbs : Int) ≤ s.settings.hold' then
        (({ s with tracker := { s.tracker with
            state := .locked, period := some (s.correction measured), holdover := 0
            deadline := some (s.lockedDeadline t (s.correction measured)) } } : State).append .syncState .none
          (.sync .recovered) (s.tracker.error measured)).notice
          ⟨.locked, some ⟨t, false⟩, some (s.correction measured)⟩
      else
        (({ s with tracker := { s.tracker with
            state := .acquire, good := 0, holdover := 0, deadline := some (s.acquireDeadline t) } } : State).append
          .syncState .none (.sync .reacquire) (s.tracker.error measured)).notice ⟨.acquire, none, s.tracker.period⟩ := by
  unfold State.crossHoldover State.withinHold
  simp only [State.reportSync_of_ne _ (show TrackerState.holdover ≠ .locked by decide), decide_eq_true_eq]
  rfl

/-- Settles O14, by the rule of each tracker state. -/
theorem crossingIsHandledByTrackerState : Obligations.CrossingIsHandledByTrackerState := by
  intro width s t k measured e p hold wait next goes
  have hexec : exec (.crossing width) s = .next (
      if k.state ≠ .unsync ∧ measured < 20000 then { s with tracker := { k with glitches := satInc 65535 k.glitches } }
      else s.acceptCrossing t measured) := by
    refine Eq.trans (?_ : _ = execCrossing width s) ?_
    · rfl
    · unfold execCrossing
      by_cases hglitch : k.state ≠ .unsync ∧ measured < 20000
      · exact (if_pos hglitch).trans (by rw [if_pos hglitch]; rfl)
      · exact (if_neg hglitch).trans (by rw [if_neg hglitch]; rfl)
  rw [hexec]
  refine congrArg Host.Outcome.next (if_congr Iff.rfl rfl ?_)
  unfold State.acceptCrossing
  rcases hstate : s.tracker.state
  case unsync => exact (s.modTracker fun k => { k with prev := some t }).crossUnsync_eq t
  case acquire =>
    simp only [k]
    exact ((s.modTracker fun k => { k with prev := some t }).crossAcquire_eq t measured).trans (by
      simp only [State.modTracker_tracker, hstate]
      rfl)
  case locked =>
    simp only [k]
    exact ((s.modTracker fun k => { k with prev := some t }).crossLocked_eq t measured).trans (by
      simp only [State.modTracker_tracker, hstate]
      rfl)
  case holdover =>
    simp only [k]
    exact (s.modTracker fun k => { k with prev := some t }).crossHoldover_eq t measured

/-! ## Deadlines (02 R21, R23, R24) -/

theorem State.onDeadline_eq (s : State) (st : TrackerState) (act : State → State) :
    s.onDeadline st act =
      if (s.tracker.deadline.any (fun d => decide ((s.time.stamp - d).toNat < 2147483648)) && decide (s.tracker.state = st)) = true
      then act s else s := by
  unfold State.onDeadline
  refine if_congr ?_ rfl rfl
  rw [Bool.and_eq_true, decide_eq_true_eq]
  rfl

theorem State.toUnsync_of_ne {s : State} (h : s.tracker.state ≠ .locked) (c : SyncChange) :
    s.toUnsync c = (({ s with tracker := { s.tracker with
        state := .unsync, good := 0, holdover := 0, deadline := none } } : State).append .syncState .none (.sync c)
      (s.tracker.period.getD 0)).notice ⟨.unsync, none, s.tracker.period⟩ := by
  rw [State.toUnsync, State.reportSync_of_ne _ h]
  rfl

theorem State.toUnsync_of_locked {s : State} (h : s.tracker.state = .locked) (c : SyncChange) :
    s.toUnsync c = ((({ s with tracker := { s.tracker with
        state := .unsync, good := 0, holdover := 0, deadline := none } } : State).append .syncState .none (.sync c)
      (s.tracker.period.getD 0)).onset .syncNotLocked).notice ⟨.unsync, none, s.tracker.period⟩ := by
  rw [State.toUnsync, h, State.reportSync_of_locked]
  rfl

/-- Settles O15, by the rule of each tracker state whose deadline is reached. -/
theorem deadlineExpiryActs : Obligations.DeadlineExpiryActs := by
  intro s k p instant next lost place gone missed runs
  have hruns : ∀ st, runs st = true → s.tracker.state = st := fun st h => by simpa using (Bool.and_eq_true_iff.mp h).2
  have hwhen : ∀ (st : TrackerState) (act : State → State) (t : State), (runs st = true → act s = t) →
      s.onDeadline st act = if runs st = true then t else s := fun st act t h => by
    rw [State.onDeadline_eq]
    by_cases hr : runs st = true
    · exact (if_pos hr).trans ((h hr).trans (if_pos hr).symm)
    · exact (if_neg hr).trans (if_neg hr).symm
  refine ⟨congrArg Host.Outcome.next (hwhen .acquire (fun s => s.toUnsync .acquireTimeout) _ fun hr => ?_),
    congrArg Host.Outcome.next (hwhen .locked State.lockedExpires _ fun hr => ?_),
    congrArg Host.Outcome.next (hwhen .holdover State.holdoverExpires _ fun hr => ?_)⟩
  · exact State.toUnsync_of_ne (by rw [hruns _ hr]; decide) .acquireTimeout
  · refine if_congr Iff.rfl ?_ ?_
    · rw [State.reportSync_of_locked]
      rfl
    · exact State.toUnsync_of_locked (hruns _ hr) .missedNoHoldover
  · refine if_congr Iff.rfl rfl ?_
    exact State.toUnsync_of_ne (by rw [hruns _ hr]; decide) .holdoverExhausted

/-! ## The blind timer (01 R8) -/

theorem expired_eq_false_iff (o : Option Nat) : (!expired o) = true ↔ o ≠ some 0 := by
  simp [expired]

/-- Settles O12, by the measurement state at the expiry. -/
theorem blindTimerExpiryActs : Obligations.BlindTimerExpiryActs := by
  intro s u
  change execBlindTimerExpiry s = _
  unfold execBlindTimerExpiry
  by_cases hexp : s.sample.blindTimer ≠ some 0
  · rw [if_pos ((expired_eq_false_iff _).mpr hexp), if_pos hexp]
  · rw [if_neg (fun h => hexp ((expired_eq_false_iff _).mp h)), if_neg hexp]
    cases hstate : s.sample.state
    · rfl
    · simp only [State.blindAction, actionOf_eq_trip_iff, if_true]
      rfl

end Sys2Proof.Machine
end


section
/-! PROOFS. The sample watchdog: the entry to BLIND (01 R6). -/

-- One text with the model: proofs elaborated side by side would need more threads than the check's memory holds.
set_option Elab.async false

namespace Sys2Proof.Machine

/-! ## What the journal does to the slots (09 R158, R159, R170) -/

/-- Every slot stays as it is, or is freed with the entry that referred to it. -/
def State.SlotsStayOrFree (s t : State) : Prop := ∀ k : Fin 8, t.slots[k] = Slot.freed ∨ t.slots[k] = s.slots[k]

theorem State.SlotsStayOrFree.of_eq {s t : State} (h : t.slots = s.slots) : s.SlotsStayOrFree t := fun k => by
  rw [h]
  exact .inr rfl

theorem State.SlotsStayOrFree.trans {a b c : State} (h : a.SlotsStayOrFree b) (k : b.SlotsStayOrFree c) :
    a.SlotsStayOrFree c := fun i => by
  rcases k i with hc | hc
  · exact .inl hc
  · rw [hc]
    exact h i

theorem State.freeRef_slots (s : State) (e : Entry) : s.SlotsStayOrFree (s.freeRef e) := fun k => by
  unfold State.freeRef State.freeSlot
  split
  next j _ =>
    rw [State.modSlot_get]
    split
    · exact .inl rfl
    · exact .inr rfl
  · exact .inr rfl

theorem State.retireFrom_slots (es : List Entry) (s : State) : s.SlotsStayOrFree (s.retireFrom es) := by
  induction es generalizing s with
  | nil => exact .of_eq rfl
  | cons e es ih =>
    unfold State.retireFrom
    split
    · exact (s.freeRef_slots e).trans (ih _)
    · exact .of_eq rfl

theorem State.retire_slots (s : State) : s.SlotsStayOrFree s.retire := s.retireFrom_slots _

theorem State.overflow_slots (s : State) : s.SlotsStayOrFree s.overflow := by
  unfold State.overflow
  split
  · exact .of_eq rfl
  · next e rest _ =>
    refine State.SlotsStayOrFree.trans (b := ({ s with journal := { s.journal with entries := rest } } : State).freeRef e) ?_
      (.of_eq (by rw [State.charge_slots, State.charge_slots]))
    exact State.freeRef_slots { s with journal := { s.journal with entries := rest } } e

theorem State.append_slots (s : State) (k : Kind) (x : Subject) (d : Detail) (v : Int) :
    s.SlotsStayOrFree (s.append k x d v) := by
  unfold State.append State.appendRef
  split
  · exact .of_eq rfl
  · exact s.overflow_slots

theorem State.join_last (s : State) (k : Kind) (x : Subject) (d : Detail) (v : Int) (r : Option (Fin 8)) :
    (s.join k x d v r).journal.entries.getLast? = some ⟨s.journal.seq, s.time.ms, k, x, d, v, r⟩ := List.getLast?_concat

theorem State.onsetIf_journal (s : State) (x : Bool) (b : Latch) : (s.onsetIf x b).journal = s.journal := by
  unfold State.onsetIf
  split <;> rfl

theorem State.append_last (s : State) (k : Kind) (x : Subject) (d : Detail) (v : Int) :
    ∃ n, (s.append k x d v).journal.entries.getLast? = some ⟨n, s.time.ms, k, x, d, v, none⟩ := by
  unfold State.append State.appendRef
  split
  · exact ⟨_, s.join_last k x d v none⟩
  · exact ⟨_, s.overflow_only.time ▸ s.overflow.join_last k x d v none⟩

/-! ## Every FILLING slot is sealed (09 R169) -/

/-- What the entry to BLIND makes of a slot. -/
def Slot.shut (x : Slot) : Slot := if x.state = .filling then { x with state := .sealed, truncated := true } else x

theorem Slot.shut_shut (x : Slot) : x.shut.shut = x.shut := by
  unfold Slot.shut
  by_cases h : x.state = .filling
  · rw [if_pos h]
    exact if_neg (fun hsealed => nomatch hsealed)
  · rw [if_neg h, if_neg h]

theorem State.sealOne_slots (s : State) (j k : Fin 8) :
    (if s.slots[j].state = .filling then s.sealTruncated j else s).slots[k] = Slot.freed ∨
      (if s.slots[j].state = .filling then s.sealTruncated j else s).slots[k] =
        if j = k then s.slots[k].shut else s.slots[k] := by
  by_cases hfill : s.slots[j].state = .filling
  · rw [if_pos hfill]
    refine (State.retire_slots (s.modSlot j fun x => { x with state := .sealed, truncated := true }) k).imp_right
      fun h => h.trans ?_
    rw [State.modSlot_get]
    by_cases hjk : j = k
    · subst hjk
      rw [if_pos rfl, if_pos rfl, Slot.shut, if_pos hfill]
    · rw [if_neg hjk, if_neg hjk]
  · rw [if_neg hfill]
    refine .inr ?_
    by_cases hjk : j = k
    · subst hjk
      rw [if_pos rfl, Slot.shut, if_neg hfill]
    · rw [if_neg hjk]

theorem State.sealEach_slots (js : List (Fin 8)) (s : State) (k : Fin 8) :
    let t := js.foldl (fun s k => if s.slots[k].state = .filling then s.sealTruncated k else s) s
    t.slots[k] = Slot.freed ∨ t.slots[k] = if k ∈ js then s.slots[k].shut else s.slots[k] := by
  induction js generalizing s with
  | nil => exact .inr rfl
  | cons j js ih =>
    rcases ih (if s.slots[j].state = .filling then s.sealTruncated j else s) with h | h
    · exact .inl h
    rcases s.sealOne_slots j k with hj | hj
    · rw [hj] at h
      exact .inl (h.trans (ite_self _))
    · rw [hj] at h
      refine .inr (h.trans ?_)
      by_cases hjk : j = k
      · simp [hjk, Slot.shut_shut]
      · simp [hjk, Ne.symm hjk]

theorem State.sealAll_slots (s : State) (k : Fin 8) :
    s.sealAll.slots[k] = Slot.freed ∨ s.sealAll.slots[k] = s.slots[k].shut := by
  have h := State.sealEach_slots slotNos s k
  rwa [if_pos (show k ∈ slotNos by clear h; revert k; decide)] at h

/-! ## The entry to BLIND -/

/-- The absorber's entry on the entry to BLIND: the enable output was active, and the new state makes it inactive. -/
theorem State.absorberEdge_blind (s b : State) (h : s.sample.state = .blind) (hb : b.sample.state = .live) :
    s.absorberEdge b =
      if b.rect.absDemand = true ∧ b.inputs.eoff = false ∧ b.rect.hot = false then
        s.append .absorber .none .absorberOff (s.sample.channels[chBus].latest.getD 0)
      else s := by
  have hout : s.absorberOut = false := by simp [State.absorberOut, h]
  unfold State.absorberEdge
  rw [hout]
  by_cases hon : b.rect.absDemand = true ∧ b.inputs.eoff = false ∧ b.rect.hot = false
  · obtain ⟨hdemand, heoff, hhot⟩ := hon
    have hbout : b.absorberOut = true := b.absorberOut_iff.mpr ⟨hdemand, by rw [hb]; decide, heoff, hhot⟩
    rw [hbout, if_neg (by decide)]
    exact (if_pos (⟨hdemand, heoff, hhot⟩ : _ ∧ _ ∧ _)).symm
  · have hbout : b.absorberOut = false := Bool.eq_false_iff.mpr fun hb' => by
      obtain ⟨hdemand, _, heoff, hhot⟩ := b.absorberOut_iff.mp hb'
      exact hon ⟨hdemand, heoff, hhot⟩
    rw [hbout, if_pos rfl, if_neg hon]

theorem State.absorberEdge_slots (s b : State) : s.SlotsStayOrFree (s.absorberEdge b) := by
  unfold State.absorberEdge
  split
  · exact .of_eq rfl
  · exact s.append_slots _ _ _ _

theorem State.sealAll_eq_foldl (s : State) {close : State → Fin 8 → State}
    (h : ∀ t k, close t k = if t.slots[k].state = .filling then t.sealTruncated k else t) :
    slotNos.foldl close s = s.sealAll := by
  rw [State.sealAll]
  exact congrArg (fun close => slotNos.foldl close s) (funext fun t => funext (h t))

/-- The entry to BLIND, each step under a name of its own. -/
theorem State.enterBlind_eq {s blind kept off told : State} (hlive : s.sample.state = .live)
    (hblind : blind = s.modSample fun u => { u with
      state := .blind, blindTimer := some (msTicks (s.g .blindTime)), blindLoaded := s.g .blindTime, resume := 0
      rings := [] })
    (hkept : kept = blind.sealAll) (hoff : off = { kept with rect := { s.rect with absDemand := false } })
    (htold : told = if s.rect.absDemand = true ∧ s.inputs.eoff = false ∧ s.rect.hot = false then
      off.append .absorber .none .absorberOff (s.sample.channels[chBus].latest.getD 0) else off) :
    s.enterBlind = (told.append .measState .none .measBlind 0).onsetIf (!s.anyFailed) .measBlind := by
  have hrect : kept.rect = s.rect := by rw [hkept, blind.sealAll_only.rect, hblind, State.modSample_rect]
  have hsample : kept.sample = blind.sample := by rw [hkept, blind.sealAll_only.sample]
  have hedge : (kept.modRect fun r => { r with absDemand := false }).absorberEdge s = told := by
    have hdemand : kept.modRect (fun r => { r with absDemand := false }) = off := by
      rw [State.modRect, hrect, hoff]
    have hunit : off.sample = blind.sample := by rw [hoff, hsample]
    rw [hdemand, State.absorberEdge_blind off s (by rw [hunit, hblind, State.modSample_sample]) hlive, htold, hunit, hblind]
    rfl
  rw [State.enterBlind, ← hedge, hkept, hblind]

/-- Settles O11: the entry to BLIND in the obligation's words, and what each of its steps leaves. -/
theorem watchdogExpiryMakesBlind : Obligations.WatchdogExpiryMakesBlind := by
  intro s shut close blind kept off told entered
  have hseal : kept = blind.sealAll := blind.sealAll_eq_foldl fun _ _ => rfl
  have hkept : blind.JournalOnly kept := by
    rw [hseal]
    exact blind.sealAll_only
  clear_value kept
  have hsample : off.sample = blind.sample := hkept.sample
  have htold : off.JournalOnly told := by
    simp only [told]
    split
    · exact off.append_only _ _ _ _
    · exact .refl off
  have hentered : off.JournalOnly entered := htold.trans (told.append_only _ _ _ _)
  have hlatched : entered.JournalOnly (entered.onsetIf (!s.anyFailed) .measBlind) :=
    entered.onsetIf_only _ _
  change ∃ t, execSampleWatchdogExpiry s = .next t ∧ _
  unfold execSampleWatchdogExpiry
  by_cases hexp : s.sample.watchdog = some 0
  swap
  · rw [if_pos ((expired_eq_false_iff _).mpr hexp)]
    exact ⟨s, rfl, fun _ => rfl, fun h => absurd h hexp, fun h => absurd h hexp⟩
  rw [if_neg (fun h => (expired_eq_false_iff _).mp h hexp)]
  by_cases hlive : s.sample.state = .live
  swap
  · exact ⟨_, if_neg hlive, fun h => absurd hexp h, fun _ _ => rfl, fun _ h => absurd h hlive⟩
  have hblind : (s.modSample fun u => { u with watchdog := none }).enterBlind =
      entered.onsetIf (!s.anyFailed) .measBlind := State.enterBlind_eq hlive rfl hseal rfl rfl
  refine ⟨_, (if_pos hlive).trans (congrArg Host.Outcome.next hblind), fun h => absurd hexp h,
    fun _ h => absurd (hlive.symm.trans h) (by decide), fun _ _ => ⟨?_, ?_⟩⟩
  · cases s.anyFailed <;> rfl
  have ht := hentered.trans hlatched
  refine ⟨ht.sample.trans hsample, ht.rect, fun k => ?_, ?_, ?_, ht.inputs.trans hkept.inputs, ht.time.trans hkept.time, ht.tracker.trans hkept.tracker,
    ht.disc.trans hkept.disc, ht.ctx.trans hkept.ctx, ht.lineTest.trans hkept.lineTest, ht.sections.trans hkept.sections,
    ht.startHold.trans hkept.startHold, ht.links.trans hkept.links, ht.settings.trans hkept.settings, ht.trips.trans hkept.trips, ht.pending.trans hkept.pending⟩
  · have htold : off.SlotsStayOrFree told := by
      simp only [told]
      split
      · exact off.append_slots _ _ _ _
      · exact .of_eq rfl
    have hslots : off.SlotsStayOrFree (entered.onsetIf (!s.anyFailed) .measBlind) :=
      (htold.trans (told.append_slots _ _ _ _)).trans (.of_eq (State.onsetIf_slots _ _ _))
    have hsealed : kept.slots = blind.sealAll.slots := congrArg State.slots hseal
    rcases hslots k with h | h
    · exact .inl h
    · rw [h, show off.slots = blind.sealAll.slots from hsealed]
      exact blind.sealAll_slots k
  · obtain ⟨n, hn⟩ := told.append_last .measState .none .measBlind 0
    refine ⟨n, ?_⟩
    rw [State.onsetIf_journal, hn, htold.time, show off.time = s.time from hkept.time]
  · exact fun hfailed p => State.onsetIf_shows entered p .measBlind (by rw [hfailed]; rfl)

end Sys2Proof.Machine
end


section
/-! PROOFS. The rectifier controller (03): gate pulses, the regulator, reference instants, tracker notices, and the entry
to SHIFTING, BLOCKED and STOPPED. -/

-- One text with the model: proofs elaborated side by side would need more threads than the check's memory holds.
set_option Elab.async false

namespace Sys2Proof.Machine

/-! ## Gate pulses (03 R44, R45) -/

theorem RectState.firing_iff (x : RectState) :
    x.firing = true ↔ x = .starting ∨ x = .running ∨ x = .shifting := by
  cases x <;> simp [RectState.firing]

theorem State.mayFire_iff_states (s : State) :
    s.mayFire = true ↔ (s.rect.state = .starting ∨ s.rect.state = .running ∨ s.rect.state = .shifting) ∧
      (s.tracker.state = .locked ∨ s.tracker.state = .holdover) ∧ s.inputs.eoff = false ∧ s.inputs.acClosed = true := by
  rw [s.mayFire_iff, RectState.firing_iff]

/-- Settles O17, by whether a pulse is pending and reached, and by what may fire. -/
theorem gatePulsesBeginAndEnd : Obligations.GatePulsesBeginAndEnd := by
  intro g s r fires reached train
  refine ⟨?_, ?_, ?_⟩
  · change execGatePulseStart g s = _
    unfold execGatePulseStart
    cases hpulse : s.rect.pulseOf g with
    | none =>
      rw [show (r.schedule.find? fun q => decide (q.gate = g)) = none from hpulse]
    | some q =>
      rw [show (r.schedule.find? fun q => decide (q.gate = g)) = some q from hpulse]
      refine congrArg Host.Outcome.next (if_congr (by rw [Bool.not_eq_true']; rfl) rfl ?_)
      by_cases hfires : fires
      · rw [if_pos (s.mayFire_iff_states.mpr hfires), if_pos hfires]
        rfl
      · rw [if_neg (fun h => hfires (s.mayFire_iff_states.mp h)), if_neg hfires]
        rfl
  · change execGatePulseEnd g s = _
    unfold execGatePulseEnd
    by_cases hend : r.gates[g].endAt.any reached = false
    · exact (if_pos (by rw [Bool.not_eq_true']; exact hend)).trans (congrArg _ (if_pos hend).symm)
    · exact (if_neg (by rw [Bool.not_eq_true']; exact hend)).trans (congrArg _ (if_neg hend).symm)
  · change execGateFeedback g s = _
    unfold execGateFeedback
    by_cases htest : r.state = .gateTest
    · exact (if_pos htest).trans (congrArg _ (if_pos htest).symm)
    · rw [if_neg (show ¬ s.rect.state = .gateTest from htest), if_neg htest]
      simp only [Bool.and_eq_true]
      by_cases hdriven : r.gates[g].driven = true ∧ r.gates[g].fired = true
      · exact (if_pos hdriven).trans (congrArg _ (if_pos hdriven).symm)
      · exact (if_neg hdriven).trans (congrArg _ (if_neg hdriven).symm)

/-! ## The regulator (03 R40, R41) -/

/-- Settles O19: the regulator is the obligation's; the sums by the readings of the bus voltage and of both currents. -/
theorem regulatorSetsFiringAngle : Obligations.RegulatorSetsFiringAngle := by
  intro s r v i free raw step alpha fits
  refine ⟨rfl, ?_⟩
  unfold State.addSums
  refine if_congr Iff.rfl ?_ rfl
  unfold State.modRect
  cases s.reading chBus <;> cases s.reading chA <;> cases s.reading chB
  all_goals
    simp only [fits, decide_eq_true_eq]
    rfl

/-! ## Reference instants (03 R33, R41, R43, R45) -/

theorem State.instantIn_eq (s : State) (was : RectState) (per : Period) :
    s.instantIn was per =
      if was = .shifting then
        let t : State := { s with rect := { s.rect with shiftCount := satInc 2 s.rect.shiftCount } }
        if t.rect.shiftCount < 2 then t.scheduleNow per else t.finishShift (t.rect.shiftEnd.getD .stopped) none
      else if s.rect.state = .shifting then s.scheduleNow per
      else if s.rect.state = .starting ∨ s.rect.state = .running then s.regulate.scheduleNow per
      else s := rfl

/-- Settles O20, by whether the instant finds a firing state. -/
theorem referenceInstantIsTaken : Obligations.ReferenceInstantIsTaken := by
  intro s instant p per loaded judged verdicts clear
  unfold State.takeInstant
  have hverdicts : loaded.verdicts = verdicts := rfl
  refine if_congr (RectState.firing_iff _) ?_ rfl
  change (loaded.verdicts.instantIn s.rect.state per).modRect Rectifier.clearSums = _
  rw [hverdicts, State.instantIn_eq]
  rfl

/-! ## Tracker notices (03 R34) -/

theorem Rectifier.release_eq (r : Rectifier) :
    (if r.state.firing then r.quiet else r).unfire = { r with
      schedule := if r.state.firing then [] else r.schedule
      gates := Vector.ofFn fun k =>
        if r.state.firing then ⟨false, none, r.gates[k].seen, false, r.gates[k].miss⟩
        else { r.gates[k] with fired := false } } := by
  cases r.state.firing
  · rfl
  · simp [Rectifier.unfire, Rectifier.quiet]

/-- Settles O21, by the tracker state that the notice carries. -/
theorem trackerNoticeActsOnRectifier : Obligations.TrackerNoticeActsOnRectifier := by
  intro s n runs release t
  have hrelease (v : State) : (v.modRect fun r => (if r.state.firing then r.quiet else r).unfire) = release v := by
    rw [State.modRect, Rectifier.release_eq]
  have ht : s.noticeState n.state = t := by
    unfold State.noticeState t
    cases n.state with
    | acquire => exact hrelease _
    | unsync => simp only [hrelease]; rfl
    | locked => rfl
    | holdover => rfl
  unfold State.notice
  rw [ht] <;> cases n.instant <;> rfl

/-! ## Entry to SHIFTING, BLOCKED and STOPPED (03 R33, R35) -/

theorem RectCause.restarts_iff (c : RectCause) : c.restarts = true ↔ c = .syncLost ∨ c = .blind := by
  cases c <;> simp [RectCause.restarts]

theorem State.gateTestMet_iff (s : State) :
    s.gateTestMet = true ↔ s.g .gateTestRequired = 0 ∨ s.rect.test.result = .clean := by
  simp only [State.gateTestMet, Bool.or_eq_true, decide_eq_true_eq]

theorem State.mayRestart_iff (s : State) :
    s.mayRestart = true ↔ s.rect.restart.isSome ∧ s.g .autoRestart = 1 ∧ s.startHold = false ∧
      ¬ (s.rect.state = .blocked ∧ s.rect.cause.any RectCause.lockout = true) ∧ s.inputs.eoff = false ∧
      s.inputs.acClosed = true ∧ s.tracker.state = .locked ∧ s.sample.state = .live ∧
      (s.g .gateTestRequired = 0 ∨ s.rect.test.result = .clean) := by
  simp only [State.mayRestart, Bool.and_eq_true, Bool.not_eq_true', decide_eq_true_eq, ← Bool.not_eq_true,
    s.lockedOut_iff, s.gateTestMet_iff, and_assoc]

theorem State.beginShift_eq (s : State) (e : ShiftEnd) (blame : Option Gate) :
    s.beginShift e blame = ({ s with
      rect := { s.rect with
        state := .shifting, alpha := s.settings.alphaInv', shiftCount := 0, shiftEnd := some e
        schedule := match s.rect.period with
          | none => []
          | some per => s.rect.schedule.filterMap fun q =>
            per.pulse s.settings.alphaInv' s.time.stamp q.gate } } : State).rectEntry e.note blame := rfl

theorem State.enterBlocked_eq (s : State) (c : RectCause) (blame : Option Gate) :
    s.enterBlocked c blame = (({ s with
      rect := { s.rect.quiet with
        state := .blocked, cause := some c
        restart := if c = .syncLost ∨ c = .blind then some (msTicks (s.g .restartWindow)) else none } } :
        State).rectEntry (.cause c) blame).tryRestart := by
  rw [State.enterBlocked, State.modRect]
  simp only [RectCause.restarts_iff]

/-- Settles O22, by the entry that each change gives and by the restart conditions. -/
theorem shiftBlockStopAndRestart : Obligations.ShiftBlockStopAndRestart := by
  intro s c note blame r released hard journal inv
  have hjournal (v : State) (n : RectNote) : v.rectEntry n blame = journal v n := v.rectEntry_eq _ _
  have hhard : r.cause.any RectCause.lockout = hard := any_lockout_eq _
  refine ⟨fun e => ?_, rfl, rfl, rfl, ?_, ?_, ?_⟩
  · rw [State.beginShift_eq, hjournal]
    cases hper : s.rect.period <;> cases e <;> simp only [r, hper] <;> rfl
  · rw [State.enterBlocked_eq, hjournal]
    rfl
  · unfold State.tryRestart
    simp only [s.mayRestart_iff]
    rw [show s.rect.cause.any RectCause.lockout = hard from hhard]
  · change execRestartWindowExpiry s = _
    unfold execRestartWindowExpiry
    by_cases hexp : r.restart = some 0
    · rw [if_neg (fun h => (expired_eq_false_iff _).mp h hexp), if_pos hexp]
      rfl
    · rw [if_pos ((expired_eq_false_iff _).mpr hexp), if_neg hexp]

end Sys2Proof.Machine
end


section
/-! PROOFS. The rectifier controller (03): the AC breaker and emergency-off, the gate test, the bus differential and the
absorber. -/

-- One text with the model: proofs elaborated side by side would need more threads than the check's memory holds.
set_option Elab.async false

namespace Sys2Proof.Machine

/-! ## The AC breaker and emergency-off (03 R37, R38) -/

theorem State.softCause_eq (s : State) : s.softCause = !(s.rect.cause.any RectCause.lockout) := rfl

theorem State.acOpenRect_of_shifting {s : State} (h : s.rect.state = .shifting) :
    s.acOpenRect = match s.rect.shiftEnd with
      | some (.blocked c) =>
        if c.lockout then s.enterBlocked c none else s.enterStopped (.cause .acOpen)
      | _ => s.enterStopped (.cause .acOpen) := by
  rw [State.acOpenRect, h] <;> rfl

theorem State.acOpenRect_of_blocked {s : State} (h : s.rect.state = .blocked) :
    s.acOpenRect = if s.rect.cause.any RectCause.lockout then s else s.enterStopped (.cause .acOpen) := by
  rw [State.acOpenRect, h, State.softCause_eq]
  cases s.rect.cause.any RectCause.lockout <;> rfl

theorem State.eoffRect_of_blocked {s : State} (h : s.rect.state = .blocked) :
    s.eoffRect = if s.rect.cause.any RectCause.lockout then s else
      ({ s with rect := { s.rect with cause := some .eoff, restart := none } } : State).append .rectState .none
        (.rect .blocked (.cause .eoff)) s.rect.alpha := by
  have hentry : s.replaceCause .eoff none =
      ({ s with rect := { s.rect with cause := some .eoff, restart := none } } : State).append .rectState .none
        (.rect .blocked (.cause .eoff)) s.rect.alpha := by
    rw [← h]
    rfl
  rw [State.eoffRect, h, State.softCause_eq, ← hentry]
  cases s.rect.cause.any RectCause.lockout <;> rfl

theorem State.execEoffAsserted_of_released (s : State) {r : State} (h : ¬ s.inputs.eoff = true)
    (hr : ({ s with inputs := { s.inputs with eoff := true } } : State).eoffRect = r) :
    exec .eoffAsserted s =
      .next ((([0, 1, 2, 3, 4, 5] : List Feeder).foldl State.eoffFeeder (r.absorberEdge s)).onset .eoffActive).settle := by
  subst hr
  exact if_neg h

/-- Settles O26, by the level of the input and the state of the rectifier. -/
theorem acBreakerAndEmergencyOff : Obligations.AcBreakerAndEmergencyOff := by
  intro s hard ac eoff open'
  have hhard (x : Option RectCause) : x.any RectCause.lockout = hard x := any_lockout_eq x
  refine ⟨?_, ?_, ?_, ?_⟩
  · change execAcBreakerOpen s = _
    unfold execAcBreakerOpen
    cases hac : s.inputs.acClosed
    · rfl
    · refine congrArg Host.Outcome.next (Eq.trans ?_ (if_neg (by decide)).symm)
      change (ac false).acOpenRect = _
      cases hstate : s.rect.state
      case blocked => exact (State.acOpenRect_of_blocked (s := ac false) hstate).trans (by rw [← hhard])
      case shifting =>
        refine (State.acOpenRect_of_shifting (s := ac false) hstate).trans ?_
        rw [show (ac false).rect.shiftEnd = s.rect.shiftEnd from rfl]
        rcases s.rect.shiftEnd with _ | (_ | c)
        · rfl
        · rfl
        · exact if_congr (by rw [← hhard]; rfl) rfl rfl
      all_goals rw [State.acOpenRect, show (ac false).rect.state = _ from hstate]
  · change execAcBreakerClosed s = _
    unfold execAcBreakerClosed
    cases s.inputs.acClosed <;> rfl
  · by_cases heoff : s.inputs.eoff = true
    · rw [if_pos heoff]
      exact if_pos heoff
    · rw [if_neg heoff]
      refine s.execEoffAsserted_of_released heoff ?_
      change (eoff true).eoffRect = _
      cases hstate : s.rect.state
      case blocked =>
        exact (State.eoffRect_of_blocked (s := eoff true) hstate).trans (if_congr (by rw [← hhard]) rfl rfl)
      all_goals rw [State.eoffRect, show (eoff true).rect.state = _ from hstate]
  · change execEoffReleased s = _
    unfold execEoffReleased
    cases s.inputs.eoff <;> rfl

/-! ## The gate test (03 R50 to R52) -/

theorem State.gateTest_eq (s : State) (repeats skip : Nat) :
    s.gateTest repeats skip =
      if repeats < 1 ∨ 16 < repeats ∨ 12 < skip then ⟨s, .badArgument, []⟩
      else if s.rect.state ≠ .stopped then ⟨s, .state, []⟩
      else if s.inputs.acClosed then ⟨s, .acOpen, []⟩
      else if s.inputs.eoff then ⟨s, .eoff, []⟩
      else ⟨s.beginGateTest repeats skip, .accepted, []⟩ := rfl

theorem bne_decide_iff (b : Bool) (p : Prop) [Decidable p] :
    (b != decide p) = true ↔ (p ∧ b = false) ∨ (¬ p ∧ b = true) := by
  by_cases h : p <;> cases b <;> simp [h]

/-- Settles O27, by the checks, the timers and the number of the step. -/
theorem gateTestRuns : Obligations.GateTestRuns := by
  intro p repeats skip s begin' u judged x own free errors stepped verdict
  have hbegin (t : State) : t.beginGateStep = begin' t := rfl
  have herrors : (x.judge).errors = errors := by
    simp only [GateTest.judge, bne_decide_iff]
    rfl
  have hstepped : (s.modGate own fun y => { y with driven := false }).modTest GateTest.judge = stepped := by
    simp only [stepped, ← herrors]
    rfl
  refine ⟨?_, ?_, ?_, rfl⟩
  · change Host.Outcome.next ((u.authorised p (u.gateTest repeats.toNat skip.toNat)).respond p [0x24, repeats, skip]) = _
    rw [u.authorised_eq, u.gateTest_eq]
    rfl
  · change execGateTestDriveEnd s = _
    unfold execGateTestDriveEnd
    by_cases hexp : x.driveTimer ≠ some 0
    · rw [if_pos ((expired_eq_false_iff _).mpr hexp), if_pos hexp]
    · rw [if_neg (fun h => hexp ((expired_eq_false_iff _).mp h)), if_neg hexp]
      dsimp only
      by_cases htest : s.rect.state = .gateTest
      · rw [if_pos htest, if_pos htest]
        rfl
      · rw [if_neg htest, if_neg htest]
        rfl
  · change execGateTestStepEnd s = _
    unfold execGateTestStepEnd
    by_cases hexp : x.stepTimer ≠ some 0
    · rw [if_pos ((expired_eq_false_iff _).mpr hexp), if_pos hexp]
    · rw [if_neg (fun h => hexp ((expired_eq_false_iff _).mp h)), if_neg hexp]
      by_cases htest : s.rect.state ≠ .gateTest
      · rw [if_pos htest, if_pos htest]
        rfl
      · rw [if_neg htest, if_neg htest]
        refine congrArg Host.Outcome.next ?_
        rw [show stepGate s.rect.test.steps = own from rfl, hstepped]
        rfl

/-! ## The bus differential (03 R46, R47) -/

theorem State.valid_eq (s : State) (k : ChannelNo) :
    s.valid k = match s.sample.channels[k.val]? with
      | some x => x.latest.isSome && decide (x.invalidRun = 0)
      | none => false := by
  rw [Vector.getElem?_eq_getElem k.isLt]
  rfl

/-- The nine currents, in the order of their channels. -/
theorem State.diffValid_eq (s : State) :
    s.diffValid = ([0, 1, 2, 3, 4, 5, 13, 14, 15] : List ChannelNo).all s.valid := by
  simp only [State.diffValid, feeders, List.all_cons, List.all_nil, Bool.and_true]
  simp only [show chA = 13 from rfl, show chB = 14 from rfl, show chAbs = 15 from rfl, show chI 0 = 0 from rfl,
    show chI 1 = 1 from rfl, show chI 2 = 2 from rfl, show chI 3 = 3 from rfl, show chI 4 = 4 from rfl,
    show chI 5 = 5 from rfl]
  ac_rfl

theorem State.diffCurrent_eq (s : State) :
    s.diffCurrent = (s.held 13).getD 0 + (s.held 14).getD 0 -
      ((s.held 0).getD 0 + (s.held 1).getD 0 + (s.held 2).getD 0 + (s.held 3).getD 0 + (s.held 4).getD 0 +
        (s.held 5).getD 0) - (s.held 15).getD 0 := by
  have hsum : (feeders.map fun f => (s.held (chI f)).getD 0).sum = (s.held 0).getD 0 + ((s.held 1).getD 0 +
      ((s.held 2).getD 0 + ((s.held 3).getD 0 + ((s.held 4).getD 0 + ((s.held 5).getD 0 + 0))))) := rfl
  rw [State.diffCurrent, hsum]
  simp only [show chA = 13 from rfl, show chB = 14 from rfl, show chAbs = 15 from rfl]
  ring

/-- Without an action the run is cleared, and without a valid reading of every current nothing moves. -/
theorem State.busStep_idle (s : State) :
    (actionOf (s.g .busDiffAction) = .off → s.busStep = { s with rect := { s.rect with diffRun := 0 } }) ∧
    (actionOf (s.g .busDiffAction) ≠ .off → s.diffValid = false → s.busStep = s) := by
  constructor
  · intro hoff
    simp only [State.busStep, State.busDifferential, if_pos hoff]
    rfl
  · intro hact hvalid
    simp only [State.busStep, State.busDifferential, if_neg hact, hvalid]
    rfl

/-- The difference of a set whose currents are valid counts, and the run that reaches its limit declares a fault. -/
theorem State.busStep_counting {s : State} (hact : actionOf (s.g .busDiffAction) ≠ .off) (hvalid : s.diffValid = true) :
    s.busStep =
      if (s.diffCurrent.natAbs : Int) < s.g .busDiffLevel then
        { s with rect := { s.rect with diffRun := 0, alarmStanding := false } }
      else if ((s.rect.diffRun + 1 : Nat) : Int) < s.g .busDiffCount then
        { s with rect := { s.rect with diffRun := s.rect.diffRun + 1 } }
      else ({ s with rect := { s.rect with diffRun := 0 } } : State).declareBusFault s.diffCurrent := by
  simp only [State.busStep, State.busDifferential, if_neg hact, if_pos hvalid]
  by_cases hlevel : (s.diffCurrent.natAbs : Int) < s.g .busDiffLevel
  · rw [if_neg (not_le.mpr hlevel), if_pos hlevel]
    rfl
  · rw [if_pos (not_lt.mp hlevel), if_neg hlevel]
    by_cases hcount : ((s.rect.diffRun + 1 : Nat) : Int) < s.g .busDiffCount
    · rw [if_neg (not_le.mpr hcount), if_pos hcount]
      rfl
    · rw [if_pos (not_lt.mp hcount), if_neg hcount]
      rfl

/-- Settles O29, by the action, the validity of the currents, the difference and the run. -/
theorem busDifferentialActs : Obligations.BusDifferentialActs := by
  intro s r at' valid d with'
  have hvalid : s.diffValid = valid := by
    rw [s.diffValid_eq]
    simp only [List.all_cons, List.all_nil, State.valid_eq]
    rfl
  have hd : s.diffCurrent = d := s.diffCurrent_eq
  by_cases hact : s.g .busDiffAction ≠ 0 ∧ s.g .busDiffAction ≠ 1
  · rw [if_pos hact]
    exact s.busStep_idle.1 (actionOf_of_ne hact.1 hact.2)
  have hon : actionOf (s.g .busDiffAction) ≠ .off := fun h => hact (not_or.mp ((actionOf_eq_off_iff _).mp h))
  rw [if_neg hact]
  by_cases hv : valid = false
  · rw [if_pos hv]
    exact s.busStep_idle.2 hon (hvalid.trans hv)
  rw [if_neg hv, State.busStep_counting hon (by rw [hvalid, Bool.eq_true_of_not_eq_false hv]), hd]
  refine if_congr Iff.rfl rfl (if_congr Iff.rfl rfl ?_)
  unfold State.declareBusFault
  by_cases htrip : s.g .busDiffAction = 0
  · rw [if_pos htrip, show actionOf ((with' 0).g .busDiffAction) = .trip from (actionOf_eq_trip_iff _).mpr htrip]
    rfl
  · have halarm : s.g .busDiffAction = 1 := by_contra fun h => hact ⟨htrip, h⟩
    rw [if_neg htrip, show actionOf ((with' 0).g .busDiffAction) = .alarm from congrArg actionOf halarm]
    rfl

/-! ## The absorber (03 R48, R49) -/

/-- Settles O30: the heating, then the demand and the hot flag, then the output's edge, which leaves the rectifier. -/
theorem absorberIsUpdated : Obligations.AbsorberIsUpdated := by
  intro s r q fa demand hot t edge
  have hdemand : s.absorberHeat.demandAfter = demand := by
    unfold State.demandAfter demand
    change (match s.held chBus with | none => _ | some v => _) = _
    cases s.held chBus <;> rfl
  have ht : (s.absorberHeat.modRect fun r => { r with
      absDemand := s.absorberHeat.demandAfter, hot := s.absorberHeat.hotAfter }) = t := by
    rw [hdemand]
    rfl
  have hedge : t.absorberEdge s = edge := rfl
  have hrect : edge.rect = t.rect := hedge ▸ (t.absorberEdge_only s).rect
  unfold State.absorber
  dsimp only
  rw [ht, hedge, State.absorberTheta, hrect]

end Sys2Proof.Machine
end


section
/-! PROOFS. The discriminator's evaluation and the breaker sequencer's operations (04, 05): trips, dispositions, lockouts,
failed attempts, commanded opens and demands. -/

-- One text with the model: proofs elaborated side by side would need more threads than the check's memory holds.
set_option Elab.async false

namespace Sys2Proof.Machine

/-! ## Contexts after other operations -/

/-- An update of a context that is known, as a record. -/
theorem State.modCtx_of_eq {s : State} {f : Feeder} {c : Context} (h : s.ctx[f] = c) (g : Context → Context) :
    s.modCtx f g = { s with ctx := s.ctx.set f (g c) } := by
  subst h
  rfl

theorem State.modCtx_self (s : State) (f : Feeder) (g : Context → Context) : (s.modCtx f g).ctx[f] = g s.ctx[f] := by
  rw [State.modCtx_get, if_pos rfl]

theorem State.append_ctx (s : State) (k : Kind) (x : Subject) (d : Detail) (v : Int) : (s.append k x d v).ctx = s.ctx :=
  (s.append_only k x d v).ctx

/-! ## The evaluation of a feeder (04 R55) -/

theorem Disc.onMark_eq (d : Disc) (mark : Bool) :
    d.onMark mark = if mark then
        { d with
          episode := none, cancelled := if d.episode.isSome then satInc 65535 d.cancelled else d.cancelled
          prev := none, instRun := 0, instAlarm := false }
      else d := by
  obtain ⟨prev, run, alarm, episode, blank⟩ := d
  cases episode <;> rfl

theorem Disc.tests_eq (d : Disc) (st : Settings) (f : Feeder) (x : Seen) {marked : Disc} {e : Evaluation}
    (hmarked : d.onMark x.mark = marked)
    (he : (let e : Evaluation := ((⟨marked, [], none, none, none⟩ : Evaluation).instTest st f x).rorTest st f x
      ({ e with disc := e.disc.heat st f x }.warnTest st f).tripLevel st f x) = e) :
    d.tests st f x = { e with disc := e.disc.clearAlarm st f } := by
  subst hmarked he
  rfl

/-- The hand-over after what the evaluation has changed: it reads the newest delivered set of the sample unit. -/
theorem State.handOver_called {t s : State} (h : t.sample = s.sample) (f : Feeder) (e : Evaluation) :
    t.handOver s f e.call =
      let called (cause : TripCause) (v : Int) : State := { t with
        trips := { t.trips with
          calls := t.trips.calls ++ [⟨f, cause, v, (s.sample.newest.map Delivered.seq).getD 0, s.disc[f].blank⟩] } }
      match e.inst, e.ror, e.thermal with
      | some v, _, _ => called .inst v
      | none, some v, _ => called .ror v
      | none, none, some v => called .thermal v
      | none, none, none => t := by
  unfold Evaluation.call
  rw [← h]
  rcases e.inst with _ | v <;> rcases e.ror with _ | v <;> rcases e.thermal with _ | v <;> rfl

theorem State.tripRequest_eq (s : State) (f : Feeder) (cause : TripCause) (disp : Disposition) (value : Int) (n : Byte) :
    s.tripRequest f cause disp value n = if s.ctx[f].state = .closed then s.trip f cause disp value n else s := rfl

/-- Settles O33: the tests are `Disc.tests`, and the request that they call for is handed over last. -/
theorem feederEvaluationRunsInOrder : Obligations.FeederEvaluationRunsInOrder := by
  intro s u f mark r d held x marked e₀ e out t₀ t₁ t called
  constructor
  · have htests : s.evaluation f mark = { e with disc := out } :=
      Disc.tests_eq s.disc[f] s.settings f x (d.onMark_eq mark) rfl
    clear_value out e
    have hentries : t₀.JournalOnly t₁ := t₀.evalEntries_only f e.entries
    have hsample : t.sample = s.sample := by
      simp only [t]
      split
      · exact (t₁.coolNotice_only f).sample.trans hentries.sample
      · exact hentries.sample
    unfold State.evaluate
    rw [htests]
    exact State.handOver_called (t := t) hsample f { e with disc := out }
  · unfold State.takeTrip State.protectionTrip
    rw [State.tripRequest_eq]
    split
    · rfl
    · rfl

/-! ## Trips (05 R80 to R82) -/

theorem TripCause.commanded_iff (c : TripCause) :
    c.commanded = true ↔ c = .command ∨ c = .blockOpen ∨ c = .earth ∨ c = .interlock := by
  cases c <;> simp [TripCause.commanded]

theorem TripCause.recorded_iff (c : TripCause) :
    c.recorded = true ↔ c = .inst ∨ c = .ror ∨ c = .selfTrip ∨ c = .intertripRx := by
  cases c <;> simp [TripCause.recorded]

theorem TripCause.intertrips_iff (c : TripCause) : c.intertrips = true ↔ c = .inst ∨ c = .ror ∨ c = .selfTrip := by
  cases c <;> simp [TripCause.intertrips]

theorem State.coordinatedAs_iff (s : State) (f : Feeder) (r : Role) :
    s.coordinatedAs f r = true ↔ s.sections[f].coord = .coordinated ∧
      s.sections[f].mapping.any (fun m => decide (m.role = r)) = true := by
  rw [State.coordinatedAs, Bool.and_eq_true, decide_eq_true_eq]

theorem State.tripEntry_eq (s : State) (f : Feeder) (cause : TripCause) (value : Int) (trigger : Byte) :
    s.tripEntry f cause value trigger =
      if cause.commanded then s
      else if cause.recorded then
        (s.requestSlot f cause trigger).2.appendRef .trip (.feeder f) (.tripCause cause) value
          (s.requestSlot f cause trigger).1
      else s.append .trip (.feeder f) (.tripCause cause) value := rfl

/-- Settles O34, by the classes of the cause. -/
theorem tripTakesEffect : Obligations.TripTakesEffect := by
  intro s f cause disp value trigger blank c sec shut commanded recorded tripping entered sent chosen
  have hchosen : s.chooseDisposition f cause blank = chosen := by
    unfold State.chooseDisposition
    simp only [s.coordinatedAs_iff]
    rfl
  have hentered : tripping.tripEntry f cause value trigger = entered := by
    rw [State.tripEntry_eq]
    exact if_congr cause.commanded_iff rfl (if_congr cause.recorded_iff rfl rfl)
  refine ⟨?_, rfl, by rw [← hchosen]; rfl⟩
  change (if s.shows f then
      (if cause.intertrips && s.sections[f].coord = .coordinated then
        (tripping.tripEntry f cause value trigger).sendTripReq f else tripping.tripEntry f cause value trigger)
    else State.completeTrip (if cause.intertrips && s.sections[f].coord = .coordinated then
        (tripping.tripEntry f cause value trigger).sendTripReq f else tripping.tripEntry f cause value trigger) f) = _
  have hsent : (if (cause.intertrips && decide (s.sections[f].coord = .coordinated)) = true then
        (tripping.tripEntry f cause value trigger).sendTripReq f else tripping.tripEntry f cause value trigger) = sent := by
    rw [hentered]
    exact if_congr (by rw [Bool.and_eq_true, decide_eq_true_eq, cause.intertrips_iff]) rfl rfl
  rw [hsent]
  rfl

/-! ## Dispositions (05 R85) -/

theorem State.applyDisposition_unbarred {s : State} {f : Feeder} {d : Disposition} (h : (s.barred f && d.recloses) = false) :
    s.applyDisposition f d = match d with
      | .opened => s.modCtx f Context.toOpened
      | .reclose =>
        s.modCtx f fun c => { c.toDeadTime .timed (some (s.deadTime f (c.count + 1))) with count := c.count + 1 }
      | .thermalWait => s.modCtx f fun c => c.toDeadTime .thermal none
      | .follow =>
        if s.coordinatedAs f .follow then s.modCtx f fun c => c.toWaitPeer c.followTimer
        else if s.sections[f].coord = .mismatch then s.enterLocked f .mismatch
        else s.enterLocked f .peerLost
      | .locked c => s.enterLocked f c := by
  rw [State.applyDisposition, h]
  cases d <;> rfl

theorem State.applyDisposition_barred {s : State} {f : Feeder} {d : Disposition} (h : (s.barred f && d.recloses) = true) :
    s.applyDisposition f d = s.modCtx f Context.toOpened := by
  rw [State.applyDisposition, h]
  rfl

/-- Settles O35, by the disposition and by whether the section bars it. -/
theorem dispositionActsWhenOpen : Obligations.DispositionActsWhenOpen := by
  intro s f d c sec bar put ms opened
  have hbar : s.barred f = bar := by
    simp only [State.barred, State.earthed, Section.holdsLocal, Section.holdsPeer, ← Bool.or_assoc]
    rfl
  refine ⟨?_, rfl⟩
  by_cases hb : (s.barred f && d.recloses) = true
  · rw [State.applyDisposition_barred hb]
    obtain ⟨hbarred, hrecloses⟩ := Bool.and_eq_true_iff.mp hb
    cases d with
    | opened => nomatch hrecloses
    | locked cause => nomatch hrecloses
    | _ => exact (if_pos (hbar ▸ hbarred)).symm
  · rw [State.applyDisposition_unbarred (Bool.eq_false_of_not_eq_true hb)]
    have hfree (hr : d.recloses = true) : ¬ bar = true := fun h => hb (by rw [hbar, h, hr]; rfl)
    cases d with
    | opened => rfl
    | locked cause => rfl
    | reclose => exact (if_neg (hfree rfl)).symm
    | thermalWait => exact (if_neg (hfree rfl)).symm
    | follow =>
      refine Eq.trans ?_ (if_neg (hfree rfl)).symm
      exact if_congr (s.coordinatedAs_iff f .follow) rfl rfl

/-! ## Lockouts and failed attempts (05 R87, R91, R97) -/

/-- Settles O36; a failed attempt that is counted finds the count one higher in the context. -/
theorem lockoutAndFailedAttempt : Obligations.LockoutAndFailedAttempt := by
  intro s f cause reason c sec role put leave abort locked ms counted
  have hctx : counted.ctx[f] = { c with count := c.count + 1 } := by
    have h := s.modCtx_self f fun c => { c with count := c.count + 1 }
    rwa [← State.append_ctx _ .closeFailed (.feeder f) reason ((c.count + 1 : Nat) : Int)] at h
  refine ⟨?_, rfl, ?_⟩
  · unfold State.enterLocked
    have hcause : (cause != .peerLockout) = decide (cause ≠ .peerLockout) := by cases cause <;> rfl
    rw [hcause]
    rfl
  · unfold State.failedAttempt
    refine if_congr Iff.rfl rfl ?_
    change (if s.sections[f].coord = .mismatch then counted.enterLocked f .mismatch
      else if s.coordinatedAs f .follow then _ else _) = _
    refine if_congr Iff.rfl rfl (if_congr Iff.rfl ?_ ?_)
    · exact State.modCtx_of_eq hctx _
    · exact State.modCtx_of_eq hctx _

/-! ## Opens, cancellations and demands by the context state (05 R83, R99, R100) -/

theorem State.commandedOpen_eq (s : State) (f : Feeder) (cause : TripCause) :
    s.commandedOpen f cause =
      if s.ctx[f].state = .closed ∨ s.ctx[f].state = .closing then s.trip f cause .opened 0 0
      else if s.ctx[f].state = .deadTime ∨ s.ctx[f].state = .queued ∨ s.ctx[f].state = .testing ∨
          s.ctx[f].state = .waitPeer then s.cancelTo f (.tripCause cause)
      else s := by
  unfold State.commandedOpen State.fstate
  cases s.ctx[f].state <;> rfl

theorem State.cancel_eq (s : State) (f : Feeder) :
    s.cancel f =
      if s.ctx[f].state = .deadTime ∨ s.ctx[f].state = .queued ∨ s.ctx[f].state = .testing ∨
          s.ctx[f].state = .waitPeer then s.cancelTo f .cancelled
      else s := by
  unfold State.cancel State.fstate
  cases s.ctx[f].state <;> rfl

theorem State.barFeeder_eq (s : State) (f : Feeder) (cause : TripCause) :
    s.barFeeder f cause =
      if s.ctx[f].state = .closed ∨ s.ctx[f].state = .closing then s.commandedOpen f cause else s.cancel f := by
  unfold State.barFeeder State.fstate
  cases s.ctx[f].state <;> rfl

theorem State.eoffFeeder_eq (s : State) (f : Feeder) :
    s.eoffFeeder f =
      if s.ctx[f].state = .closed ∨ s.ctx[f].state = .closing then s.trip f .eoff (.locked .eoff) 0 0
      else if s.ctx[f].state = .deadTime ∨ s.ctx[f].state = .queued ∨ s.ctx[f].state = .testing ∨
          s.ctx[f].state = .waitPeer then s.enterLocked f .eoff
      else if s.ctx[f].state = .tripping then
        s.modCtx f fun c => { c with disp := some (.locked .eoff), followTimer := none }
      else s := by
  unfold State.eoffFeeder State.fstate
  cases s.ctx[f].state <;> rfl

/-- The disposition leads to LOCKED (05, 5.1). -/
def Disposition.locks : Option Disposition → Bool
  | some (.locked _) => true
  | _ => false

/-- A lockout demand acts in WAIT_PEER, before a trip or in a reclose state where its cause is one of two, and on the
disposition of a trip under way where it is INTERTRIP_UNACK (05 R100). -/
theorem State.lockoutDemand_eq (s : State) (f : Feeder) (lock : LockCause) :
    s.lockoutDemand f lock =
      if s.ctx[f].state = .waitPeer then s.enterLocked f lock
      else if (lock = .peerLockout ∨ lock = .intertripUnack) ∧ ((s.ctx[f].state = .deadTime ∨ s.ctx[f].state = .queued ∨
          s.ctx[f].state = .testing ∨ s.ctx[f].state = .waitPeer) ∨ s.ctx[f].state = .opened) then s.enterLocked f lock
      else if lock = .intertripUnack ∧ s.ctx[f].state = .tripping ∧ Disposition.locks s.ctx[f].disp = false then
        s.modCtx f fun c => { c with disp := some (.locked .intertripUnack), followTimer := none }
      else s := by
  unfold State.lockoutDemand State.fstate
  cases s.ctx[f].state
  case tripping =>
    rcases s.ctx[f].disp with _ | (_ | _ | _ | _ | _) <;> simp [Disposition.locks]
  all_goals simp

/-- Settles O37, by the context state. -/
theorem opensDemandsAndEoffByState : Obligations.OpensDemandsAndEoffByState := by
  intro s f cause lock _ c reclosing shut lockedDisp put toOpen
  have hlocked : Disposition.locks c.disp = lockedDisp := by
    unfold lockedDisp
    rcases c.disp with _ | (_ | _ | _ | _ | _) <;> rfl
  refine ⟨s.commandedOpen_eq f cause, s.cancel_eq f, s.barFeeder_eq f cause, s.eoffFeeder_eq f, ?_⟩
  rw [← hlocked]
  exact s.lockoutDemand_eq f lock

end Sys2Proof.Machine
end


section
/-! PROOFS. The breaker sequencer's events (05): breaker positions and the timers of a context. -/

-- One text with the model: proofs elaborated side by side would need more threads than the check's memory holds.
set_option Elab.async false

namespace Sys2Proof.Machine

/-! ## The contexts of the other feeders -/

/-- Two states agree on every context but that of one feeder. -/
def State.OthersKept (f : Feeder) (s t : State) : Prop := ∀ g : Feeder, f ≠ g → t.ctx[g] = s.ctx[g]

variable {f : Feeder} {s t u : State}

theorem State.OthersKept.of_ctx (h : t.ctx = s.ctx) : State.OthersKept f s t := fun g _ => by rw [h]

theorem State.OthersKept.trans (h : State.OthersKept f s t) (k : State.OthersKept f t u) : State.OthersKept f s u :=
  fun g hg => (k g hg).trans (h g hg)

theorem State.modCtx_othersKept (s : State) (f : Feeder) (g : Context → Context) : State.OthersKept f s (s.modCtx f g) :=
  fun h hh => by rw [State.modCtx_get, if_neg hh]

theorem State.abortTest_ctx (s : State) (f : Feeder) (a : Bool) : (s.abortTest f a).ctx = s.ctx := by
  unfold State.abortTest
  split
  · exact (State.recordResult_same _ _ _).ctx
  · rfl

theorem State.enterLocked_othersKept (s : State) (f : Feeder) (c : LockCause) : State.OthersKept f s (s.enterLocked f c) := by
  unfold State.enterLocked
  extract_lets t u
  have ht : t.ctx = (s.modCtx f fun x => x.toLocked c).ctx := State.abortTest_ctx _ f _
  have hu : State.OthersKept f s u :=
    (s.modCtx_othersKept f _).trans (.of_ctx ((t.append_ctx _ _ _ _).trans ht))
  split
  · exact hu.trans (.of_ctx (u.askFor_same f _).ctx)
  · exact hu

theorem State.applyDisposition_othersKept (s : State) (f : Feeder) (d : Disposition) :
    State.OthersKept f s (s.applyDisposition f d) := by
  unfold State.applyDisposition
  split
  · exact s.modCtx_othersKept f _
  · exact s.modCtx_othersKept f _
  · exact s.modCtx_othersKept f _
  · split
    · exact s.modCtx_othersKept f _
    · split <;> exact s.enterLocked_othersKept f _
  · exact s.enterLocked_othersKept f _

theorem State.completeTrip_othersKept (s : State) (f : Feeder) : State.OthersKept f s (s.completeTrip f) :=
  ((s.modCtx_othersKept f _).trans (.of_ctx (State.append_ctx _ _ _ _ _))).trans
    (State.applyDisposition_othersKept _ f _)

/-- A trip of one feeder leaves the contexts of the others. -/
theorem State.trip_othersKept (s : State) (f : Feeder) (c : TripCause) (d : Disposition) (v : Int) (b : Byte) :
    State.OthersKept f s (s.trip f c d v b) := by
  unfold State.trip
  extract_lets t u w
  have hu : State.OthersKept f s u := (s.modCtx_othersKept f _).trans (.of_ctx (t.tripEntry_only f c v b).ctx)
  have hw : State.OthersKept f s w := by
    simp only [w]
    split
    · exact hu.trans (.of_ctx (u.sendTripReq_same f).ctx)
    · exact hu
  split
  · exact hw
  · exact hw.trans (w.completeTrip_othersKept f)

/-! ## Two updates of one context -/

theorem State.modCtx_modCtx (s : State) (f : Feeder) (g h : Context → Context) :
    (s.modCtx f g).modCtx f h = s.modCtx f fun c => h (g c) := by
  unfold State.modCtx
  simp only [Vector.set_set, Fin.getElem_fin, Vector.getElem_set_self]

/-! ## Breaker positions (05 R85, R88, R93, R96, R97) -/

theorem State.contextOpens_eq (s : State) (f : Feeder) :
    s.contextOpens f = match s.ctx[f].state with
      | .tripping => s.completeTrip f
      | .closed => s.protectionTrip f .selfTrip (s.newestHeld f) s.newestSeq s.disc[f].blank
      | .stuck => s.stuckOpens f
      | _ => s := by
  unfold State.contextOpens State.fstate
  cases s.ctx[f].state <;> rfl

theorem State.contextCloses_eq (s : State) (f : Feeder) :
    s.contextCloses f =
      if s.ctx[f].state = .closing then s.closeDone f
      else if s.ctx[f].state = .closed ∨ s.ctx[f].state = .tripping ∨ s.ctx[f].state = .stuck then s
      else s.unexpectedClose f := by
  unfold State.contextCloses State.fstate
  cases s.ctx[f].state <;> rfl

/-- A SELF_TRIP carries the number of the newest delivered set and the current that it held (05 R82). -/
theorem State.selfTrip_eq (s : State) (f : Feeder) (blank : Nat) :
    s.protectionTrip f .selfTrip (s.newestHeld f) s.newestSeq blank =
      match s.sample.newest with
      | none => s.protectionTrip f .selfTrip 0 0 blank
      | some n =>
        match n.held[f] with
        | some v => s.protectionTrip f .selfTrip v n.seq blank
        | none => s.protectionTrip f .selfTrip (Config.unstatedCurrent s.journal.seq).toInt n.seq blank := by
  unfold State.newestHeld State.newestSeq
  cases s.sample.newest with
  | none => rfl
  | some n => cases h : n.held[f] <;> simp only [h] <;> rfl

/-- Settles O38, by the level shown before and by the context state. -/
theorem breakerPositionChangesAct : Obligations.BreakerPositionChangesAct := by
  intro f s c sec put shown last o opens activated blocked k made lead told undone bar unexpected
  constructor
  · have hopens : o.contextOpens f = opens := by
      rw [State.contextOpens_eq]
      unfold opens
      rw [show o.ctx[f].state = c.state from rfl]
      cases c.state
      case closed => exact o.selfTrip_eq f _
      all_goals rfl
    have hblocked : (o.contextOpens f).activateBlocks f = blocked := by
      rw [hopens]
      rfl
    change execBreakerPositionOpen f s = _
    unfold execBreakerPositionOpen
    by_cases hshows : s.inputs.breaker[f] = true
    · rw [if_pos hshows]
      exact (if_pos hshows).trans (by rw [← hblocked]; rfl)
    · rw [if_neg hshows]
      exact if_neg hshows
  · have hcontext : k.contextCloses f =
        if c.state = .closing then
          told.append .closed (.feeder f) (if c.auto then .closedAutomatic else .closedPort) c.count
        else if c.state = .closed ∨ c.state = .tripping ∨ c.state = .stuck then k
        else unexpected := by
      rw [State.contextCloses_eq]
      refine if_congr Iff.rfl rfl (if_congr Iff.rfl rfl ?_)
      unfold State.unexpectedClose State.barred Section.holdsPeer
      simp only [← Bool.or_assoc]
      rfl
    change execBreakerPositionClosed f s = _
    unfold execBreakerPositionClosed
    by_cases hshows : s.inputs.breaker[f] = true
    · rw [if_pos hshows]
      exact if_pos hshows
    · rw [if_neg hshows, ← hcontext]
      exact if_neg hshows

/-! ## The timers of a context (05 R86, R89, R93, R94) -/

theorem State.backupTrip_eq (s : State) (f : Feeder) :
    s.backupTrip f = if s.ctx[f].state = .closed ∨ s.ctx[f].state = .closing then
      s.trip f .bfBackup (.locked .bfBackup) 0 0 else s := rfl

/-- The backup trips leave the context of the feeder that is escalated. -/
theorem State.backupTrips_frame (f : Feeder) (gs : List Feeder) (s : State) (h : ∀ g ∈ gs, g ≠ f) :
    s.SequencerOnly (gs.foldl State.backupTrip s) ∧ (gs.foldl State.backupTrip s).ctx[f] = s.ctx[f] := by
  induction gs generalizing s with
  | nil => exact ⟨.refl s, rfl⟩
  | cons g gs ih =>
    obtain ⟨hframe, hctx⟩ := ih (s.backupTrip g) fun j hj => h j (List.mem_cons_of_mem g hj)
    have hg : g ≠ f := h g List.mem_cons_self
    have htrip : s.SequencerOnly (s.backupTrip g) ∧ (s.backupTrip g).ctx[f] = s.ctx[f] := by
      rw [State.backupTrip_eq]
      split
      · exact ⟨s.trip_only g _ _ _ _, s.trip_othersKept g _ _ _ _ f hg⟩
      · exact ⟨.refl s, rfl⟩
    exact ⟨htrip.1.trans hframe, hctx.trans htrip.2⟩

/-- An expiry does nothing before its timer has run down (log 2). -/
theorem answer_of_expired (o : Option Nat) {s t : State} {a : Answer} (h : a = .next t) :
    (if (!expired o) = true then .next s else a) = .next (if o ≠ some 0 then s else t) := by
  subst h
  by_cases hexp : o ≠ some 0
  · rw [if_pos ((expired_eq_false_iff o).mpr hexp), if_pos hexp]
  · rw [if_neg (fun h => hexp ((expired_eq_false_iff o).mp h)), if_neg hexp]

theorem answer_ite {p q : Prop} [Decidable p] [Decidable q] {a b : Answer} {t u : State} (hpq : p ↔ q)
    (ha : a = .next t) (hb : b = .next u) : (if p then a else b) = .next (if q then t else u) := by
  subst ha hb
  by_cases h : p
  · rw [if_pos h, if_pos (hpq.mp h)]
  · rw [if_neg h, if_neg (fun hq => h (hpq.mpr hq))]

theorem State.enqueue_eq (s : State) (f : Feeder) (a : Bool) {c : Context} (h : s.ctx[f] = c) :
    s.joinQueue f a = { s with
      ctx := s.ctx.set f { c with state := .queued, auto := a, wait := none, deadTimer := none }
      lineTest := { s.lineTest with queue := s.lineTest.queue ++ [f] } } := by
  subst h
  rfl

theorem State.deadTimeEnd_eq (s : State) (f : Feeder) :
    s.deadTimeEnd f = if s.interlock f true = .pass then s.joinQueue f true else
      (s.modCtx f Context.toOpened).append .opened (.feeder f) (.tripCause .interlock) 0 := rfl

theorem State.closeFails_eq (s : State) (f : Feeder) :
    s.closeFails f = if s.ctx[f].auto then s.failedAttempt f .failedSupervision else
      (s.modCtx f Context.toOpened).append .closeFailed (.feeder f) .failedPort 0 := rfl

/-- The escalation reads what the block request and the backup trips leave. -/
theorem State.escalate_eq {s stuck backed sent : State} {f : Feeder}
    (hstuck : (s.modCtx f fun c => { c with state := .stuck, followTimer := none }).blockRequest .breakerFail none = stuck)
    (hbacked : (feeders.filter fun g => g != f).foldl State.backupTrip stuck = backed)
    (hsent : (if s.sections[f].coord = .coordinated then backed.sendTripReq f else backed) = sent) :
    s.escalate f = sent.append .breakerFail (.feeder f)
      (match s.ctx[f].lastTrip with
        | some x => .tripCause x
        | none => .none) (s.g .tripTimeMax) := by
  obtain ⟨hframe, hctx⟩ := State.backupTrips_frame f (feeders.filter fun g => g != f) stuck fun g hg =>
    bne_iff_ne.mp (List.mem_filter.mp hg).2
  rw [hbacked] at hframe hctx
  have hrect := State.blockRequest_only (s.modCtx f fun c => { c with state := .stuck, followTimer := none }) .breakerFail none
  rw [hstuck] at hrect
  have hsections : backed.sections = s.sections := hframe.sections.trans hrect.sections
  have hlast : backed.ctx[f].lastTrip = s.ctx[f].lastTrip := by
    rw [hctx, hrect.ctx, State.modCtx_self]
  have hsend : sent.ctx = backed.ctx ∧ sent.settings = s.settings := by
    rw [← hsent]
    split
    · exact ⟨(backed.sendTripReq_same f).ctx,
        (backed.sendTripReq_only f).settings.trans (hframe.settings.trans hrect.settings)⟩
    · exact ⟨rfl, hframe.settings.trans hrect.settings⟩
  unfold State.escalate
  simp only [hstuck, hbacked, hsections, hsent, hsend.1, hlast, State.g, hsend.2] <;> rfl

/-- Settles O39, timer by timer. -/
theorem feederTimersExpire : Obligations.FeederTimersExpire := by
  intro f s c put shut dead queued close stuck backed sent
  have hfails (g : Context → Context) (hg : ∀ x, (g x).toOpened = x.toOpened) :
      (s.modCtx f g).modCtx f Context.toOpened = put (shut c) := by
    rw [State.modCtx_modCtx]
    simp only [hg]
    rfl
  have hdead : (s.modCtx f fun c => { c with deadTimer := none }).deadTimeEnd f =
      if s.interlock f true = .pass then queued
      else (put (shut c)).append .opened (.feeder f) (.tripCause .interlock) 0 := by
    rw [State.deadTimeEnd_eq, hfails (fun c => { c with deadTimer := none }) fun _ => rfl,
      State.enqueue_eq _ f true (s.modCtx_self f fun c => { c with deadTimer := none })]
    rfl
  have hclose : (s.modCtx f fun c => { c with closeTimer := none }).closeFails f =
      if c.auto then close.failedAttempt f .failedSupervision
      else (put (shut c)).append .closeFailed (.feeder f) .failedPort 0 := by
    rw [State.closeFails_eq, hfails (fun c => { c with closeTimer := none }) fun _ => rfl, State.modCtx_self]
    rfl
  have hescalate : (s.modCtx f fun c => { c with tripTimer := none }).escalate f =
      sent.append .breakerFail (.feeder f)
        (match c.lastTrip with
          | some x => .tripCause x
          | none => .none) (s.g .tripTimeMax) := by
    have h := State.escalate_eq (s := s.modCtx f fun c => { c with tripTimer := none }) (f := f) (stuck := stuck)
      (backed := backed) (sent := sent) (by rw [State.modCtx_modCtx]; rfl) rfl rfl
    rw [State.modCtx_self] at h
    exact h
  refine ⟨?_, ?_, ?_, ?_, ?_, ?_⟩
  · exact answer_of_expired c.deadTimer (answer_ite Iff.rfl (congrArg (fun v : State => Host.Outcome.next v.settle) hdead) rfl)
  · exact answer_of_expired c.closeTimer (answer_ite Iff.rfl (congrArg (fun v : State => Host.Outcome.next v.settle) hclose) rfl)
  · exact answer_of_expired c.reclaimTimer rfl
  · exact answer_of_expired c.followTimer (answer_ite Iff.rfl rfl rfl)
  · exact answer_of_expired c.tripTimer (answer_ite Iff.rfl (congrArg Host.Outcome.next hescalate) rfl)
  · unfold State.coolNotice
    refine if_congr Iff.rfl ?_ rfl
    rw [State.deadTimeEnd_eq, State.enqueue_eq s f true rfl]
    refine if_congr Iff.rfl ?_ rfl
    simp only [queued, dead, put, Vector.set_set]
    rfl

end Sys2Proof.Machine
end


section
/-! PROOFS. The commands to a feeder and the line tests (05 R92, R98; 06). -/

-- One text with the model: proofs elaborated side by side would need more threads than the check's memory holds.
set_option Elab.async false

namespace Sys2Proof.Machine

/-! ## Commands to a feeder (05 R92, R98) -/

/-- A port close is never refused for a MISMATCH, which bars automatic closes alone (07 R119). -/
theorem State.interlock_port_ne_mismatch (s : State) (f : Feeder) : s.interlock f false ≠ .mismatch := by
  unfold State.interlock
  simp only [Bool.false_and, Bool.false_eq_true, if_false]
  split_ifs <;> decide

/-- The refusals of the interlock, verdict by verdict. -/
theorem refuse_interlock {v : Verdict} (h : v ≠ .mismatch) (s : State) (done : Reply) :
    (if v ≠ .pass then s.refuse v.result else done) =
      if v = .earthed then ⟨s, .earthed, []⟩
      else if v = .localBlock ∨ v = .peerBlock then ⟨s, .blocked, []⟩
      else if v = .eoff then ⟨s, .eoff, []⟩
      else if v = .hold then ⟨s, .hold, []⟩
      else done := by
  cases v
  case mismatch => exact absurd rfl h
  all_goals rfl

theorem State.closeFeeder_eq (s : State) (f : Feeder) {c : Context} (hc : s.ctx[f] = c) {v : Verdict}
    (hv : s.interlock f false = v) :
    s.closeFeeder f =
      if c.state = .locked then ⟨s, .lockedOut, []⟩
      else if c.state ≠ .opened then ⟨s, .busy, []⟩
      else if v = .earthed then ⟨s, .earthed, []⟩
      else if v = .localBlock ∨ v = .peerBlock then ⟨s, .blocked, []⟩
      else if v = .eoff then ⟨s, .eoff, []⟩
      else if v = .hold then ⟨s, .hold, []⟩
      else if (s.reading (chV f)).any (fun x => decide (s.g .liveLevel ≤ x)) then
        ⟨{ s with
          ctx := s.ctx.set f { c with
            count := 0, auto := false, state := .closing, wait := none, followTimer := none
            closeTimer := some ((s.g .closeTimeMax).toNat * 10000) } }, .accepted, []⟩
      else
        ⟨{ s with
          ctx := s.ctx.set f { c with count := 0, auto := false, state := .queued, wait := none, deadTimer := none }
          lineTest := { s.lineTest with queue := s.lineTest.queue ++ [f] } }, .accepted, []⟩ := by
  have hcloses : (s.modCtx f fun c => { c with count := 0, auto := false }).enterClosing f = { s with
      ctx := s.ctx.set f { c with
        count := 0, auto := false, state := .closing, wait := none, followTimer := none
        closeTimer := some ((s.g .closeTimeMax).toNat * 10000) } } := by
    rw [State.enterClosing, State.modCtx_modCtx, State.modCtx_of_eq hc]
    rfl
  have hqueues : (s.modCtx f fun c => { c with count := 0, auto := false }).joinQueue f false = { s with
      ctx := s.ctx.set f { c with count := 0, auto := false, state := .queued, wait := none, deadTimer := none }
      lineTest := { s.lineTest with queue := s.lineTest.queue ++ [f] } } := by
    rw [State.joinQueue, State.modCtx_modCtx, State.modCtx_of_eq hc]
    rfl
  have hne := s.interlock_port_ne_mismatch f
  subst hc
  rw [hv] at hne
  unfold State.closeFeeder
  refine if_congr Iff.rfl rfl (if_congr Iff.rfl rfl ?_)
  rw [hv, refuse_interlock hne]
  refine if_congr Iff.rfl rfl (if_congr Iff.rfl rfl (if_congr Iff.rfl rfl (if_congr Iff.rfl rfl ?_)))
  dsimp only
  rw [hcloses, hqueues]
  unfold State.lineLive
  split
  · rfl
  · rfl

theorem State.openFeeder_eq (s : State) (f : Feeder) :
    s.openFeeder f =
      if s.ctx[f].state = .opened ∨ s.ctx[f].state = .locked ∨ s.ctx[f].state = .tripping ∨ s.ctx[f].state = .stuck then
        ⟨s, .ok, []⟩
      else ⟨s.commandedOpen f .command, .accepted, []⟩ := by
  unfold State.openFeeder State.fstate
  cases s.ctx[f].state <;> rfl

theorem State.resetFeeder_eq (s : State) (f : Feeder) :
    s.resetFeeder f =
      if s.ctx[f].state ≠ .locked then ⟨s, .state, []⟩
      else if s.ctx[f].lock = some .eoff ∧ s.inputs.eoff = true then ⟨s, .eoff, []⟩
      else
        ⟨(s.modCtx f fun c => { c with state := .opened, lock := none, count := 0 }).append .lockoutReset (.feeder f)
          (match s.ctx[f].lock with
            | some x => .lockCause x
            | none => .none) 0, .accepted, []⟩ := by
  unfold State.resetFeeder
  refine if_congr Iff.rfl rfl (if_congr (by rw [Bool.and_eq_true, decide_eq_true_eq]) rfl rfl)

/-- Settles O40, by the feeder that the byte names and by the context state. -/
theorem feederCommandsAreJudged : Obligations.FeederCommandsAreJudged := by
  intro p n s u close v open' w reset
  have hclose : u.authorised p (u.forFeeder n u.closeFeeder) = close := by
    rw [u.authorised_eq]
    refine if_congr Iff.rfl rfl ?_
    unfold State.forFeeder
    cases feederOf n with
    | none => rfl
    | some f => exact u.closeFeeder_eq f rfl rfl
  have hopen : v.forFeeder n v.openFeeder = open' := by
    unfold State.forFeeder open'
    cases feederOf n with
    | none => rfl
    | some f => exact v.openFeeder_eq f
  have hreset : w.authorised p (if n = 0 then w.resetRectifier else w.forFeeder n w.resetFeeder) = reset := by
    rw [w.authorised_eq]
    refine if_congr Iff.rfl rfl (if_congr Iff.rfl rfl ?_)
    unfold State.forFeeder
    cases feederOf n with
    | none => rfl
    | some f => exact w.resetFeeder_eq f
  rw [← hclose, ← hopen, ← hreset]
  exact ⟨rfl, rfl, rfl⟩

/-! ## Line tests (06 R105 to R113) -/

theorem State.recordResult_ctx (s : State) (f : Feeder) (x : LastResult) : (s.recordResult f x).ctx = s.ctx :=
  (s.recordResult_same f x).ctx

variable {f : Feeder}

/-- A FAIL result, after its entry. -/
theorem State.lineFails_eq {s : State} {c : Context} (hc : s.ctx[f] = c) :
    s.lineFails f = if c.auto then s.failedAttempt f .failedLineTest else
      { s with ctx := s.ctx.set f c.toOpened } := by
  subst hc
  rfl

theorem State.enterClosing_eq {s : State} {c : Context} (hc : s.ctx[f] = c) {n : Int}
    (hn : s.g .closeTimeMax = n) :
    s.enterClosing f = { s with ctx := s.ctx.set f { c with
      state := .closing, wait := none, followTimer := none, closeTimer := some (msTicks n) } } := by
  subst hc hn
  rfl

theorem State.endTest_eq {s : State} {r : LineResult} {b v : Option Int} {n : Int} (hb : s.reading chBus = b)
    (hv : s.reading (chV f) = v) (h : s.judgeTest b v = (r, n)) :
    s.endTest f =
      let t := (s.modLine fun u => { u with tested := none, timer := none }).recordResult f ⟨r, s.ctx[f].auto, b, v, n⟩
      if r = .pass then if s.interlock f s.ctx[f].auto = .pass then t.enterClosing f else t.interlockFails f
      else t.lineFails f := by
  unfold State.endTest
  simp only [hb, hv, h]

theorem State.execLineTestExpiry_of_tested {s : State} (h : s.lineTest.tested = some f) :
    exec .lineTestExpiry s = .next (if s.lineTest.timer = some 0 then (s.endTest f).settle else s) := by
  change execLineTestExpiry s = _
  unfold execLineTestExpiry
  by_cases hexp : s.lineTest.timer = some 0
  · rw [if_neg (fun hn => (expired_eq_false_iff _).mp hn hexp), if_pos hexp, h]
  · rw [if_pos ((expired_eq_false_iff _).mpr hexp), if_neg hexp]

theorem State.execLineTestExpiry_of_idle {s : State} (h : s.lineTest.tested = none) :
    exec .lineTestExpiry s =
      .next (if s.lineTest.timer = some 0 then { s with lineTest := { s.lineTest with timer := none } } else s) := by
  change execLineTestExpiry s = _
  unfold execLineTestExpiry
  by_cases hexp : s.lineTest.timer = some 0
  · rw [if_neg (fun hn => (expired_eq_false_iff _).mp hn hexp), if_pos hexp, h]
    rfl
  · rw [if_pos ((expired_eq_false_iff _).mpr hexp), if_neg hexp]

/-- Settles O41, by the start checks, and by the judgement of an expired test. -/
theorem lineTestsAreJudged : Obligations.LineTestsAreJudged := by
  intro s f c put shut report fails closes noClose b v idle ohms ended
  have hctx (u : State) (hu : u.ctx = s.ctx) : u.ctx[f] = c := by rw [hu]
  have hreport (u : State) (r : LineResult) (x y : Option Int) (n : Int) :
      u.recordResult f ⟨r, c.auto, x, y, n⟩ = report u r x y n := rfl
  have hfails (u : State) (hu : u.ctx = s.ctx) (x : LastResult) :
      (u.recordResult f x).lineFails f = fails (u.recordResult f x) :=
    State.lineFails_eq (hctx _ ((u.recordResult_ctx f x).trans hu))
  have hcloses (u : State) (hu : u.ctx = s.ctx) (hset : u.settings = s.settings) (x : LastResult) :
      (u.recordResult f x).enterClosing f = closes (u.recordResult f x) := by
    have hset' : (u.recordResult f x).settings = s.settings := (u.recordResult_only f x).settings.trans hset
    exact State.enterClosing_eq (hctx _ ((u.recordResult_ctx f x).trans hu))
      (congrArg (fun st : Settings => st.g .closeTimeMax) hset')
  have hnoClose (u : State) (hu : u.ctx = s.ctx) (x : LastResult) :
      (u.recordResult f x).interlockFails f = noClose (u.recordResult f x) := by
    rw [State.interlockFails, State.modCtx_of_eq (hctx _ ((u.recordResult_ctx f x).trans hu))]
    rfl
  have hb : s.reading chBus = b := rfl
  have hv : s.reading (chV f) = v := rfl
  clear_value b v
  have hended : s.endTest f = ended := by
    have hinvalid (h : s.judgeTest b v = (.invalid, 0)) : s.endTest f = fails (report idle .invalid b v 0) := by
      rw [State.endTest_eq hb hv h]
      exact (if_neg (by decide)).trans (hfails idle rfl _)
    rcases b with _ | x
    · exact hinvalid rfl
    rcases v with _ | y
    · exact hinvalid rfl
    have hjudge : s.judgeTest (some x) (some y) = if s.sample.state = .blind then (.invalid, 0)
        else if s.g .ltMinResistance * x ≤ y * (s.g .ltResistor + s.g .ltMinResistance) then (.pass, ohms x y)
        else (.lowResistance, ohms x y) := rfl
    by_cases hblind : s.sample.state = .blind
    · exact (hinvalid (hjudge.trans (if_pos hblind))).trans (if_pos hblind).symm
    · rw [if_neg hblind] at hjudge
      refine Eq.trans ?_ (if_neg hblind).symm
      by_cases hpass : s.g .ltMinResistance * x ≤ y * (s.g .ltResistor + s.g .ltMinResistance)
      · rw [State.endTest_eq hb hv (hjudge.trans (if_pos hpass)), if_pos hpass]
        exact (if_pos rfl).trans (if_congr Iff.rfl (hcloses idle rfl rfl _) (hnoClose idle rfl _))
      · rw [State.endTest_eq hb hv (hjudge.trans (if_neg hpass)), if_neg hpass]
        exact (if_neg (by decide)).trans (hfails idle rfl _)
  refine ⟨?_, fun h => ?_, State.execLineTestExpiry_of_idle, fun h => ?_, fun h g rest hq => ?_⟩
  · unfold State.takeHead
    rw [hb, hv]
    refine if_congr Iff.rfl rfl (if_congr ?_ ?_ (if_congr ?_ ?_ (if_congr ?_ ?_ rfl)))
    · rw [Bool.and_eq_true, Bool.and_eq_true, decide_eq_true_eq, and_assoc]
    · exact hfails s rfl _
    · cases b <;> simp
    · exact hfails s rfl _
    · cases v <;> simp
    · exact hcloses s rfl rfl _
  · rw [State.execLineTestExpiry_of_tested h, hended]
  · exact s.settle_of_idle (.inr h)
  · unfold State.settle
    rw [hq]
    rw [List.length_cons, State.takeHeads, h, hq]
    rfl

end Sys2Proof.Machine
end


section
/-! PROOFS. The section table (07): blocks, the announced set, earth switches, the selector, the start hold, the close
interlock, peer requests and coordination. -/

-- One text with the model: proofs elaborated side by side would need more threads than the check's memory holds.
set_option Elab.async false

namespace Sys2Proof.Machine

/-! ## The announced set is ascending (07 R124) -/

theorem mem_insertTag (t x : Tag) (ts : List Tag) : x ∈ insertTag t ts ↔ x = t ∨ x ∈ ts := by
  induction ts with
  | nil => simp [insertTag]
  | cons y rest ih =>
    unfold insertTag
    split_ifs with hlt heq
    · simp
    · subst heq
      simp
    · simp only [List.mem_cons, ih, or_left_comm]

theorem mem_ascending (x : Tag) (ts : List Tag) : x ∈ ascending ts ↔ x ∈ ts := by
  induction ts with
  | nil => rfl
  | cons t ts ih =>
    have hstep : ascending (t :: ts) = insertTag t (ascending ts) := rfl
    rw [hstep, mem_insertTag, ih, List.mem_cons]

theorem insertTag_pairwise (t : Tag) {ts : List Tag} (h : ts.Pairwise fun x y => x.toNat < y.toNat) :
    (insertTag t ts).Pairwise fun x y => x.toNat < y.toNat := by
  induction ts with
  | nil => simp [insertTag]
  | cons y rest ih =>
    obtain ⟨hy, hrest⟩ := List.pairwise_cons.mp h
    unfold insertTag
    split_ifs with hlt heq
    · refine List.pairwise_cons.mpr ⟨fun z hz => ?_, h⟩
      rcases List.mem_cons.mp hz with rfl | hz
      · exact BitVec.lt_def.mp hlt
      · exact (BitVec.lt_def.mp hlt).trans (hy z hz)
    · exact h
    · refine List.pairwise_cons.mpr ⟨fun z hz => ?_, ih hrest⟩
      rcases (mem_insertTag t z rest).mp hz with rfl | hz
      · have hne : z.toNat ≠ y.toNat := fun h => heq (BitVec.eq_of_toNat_eq h)
        have hle : ¬ z.toNat < y.toNat := fun h => hlt (BitVec.lt_def.mpr h)
        omega
      · exact hy z hz

theorem ascending_pairwise (ts : List Tag) : (ascending ts).Pairwise fun x y => x.toNat < y.toNat := by
  induction ts with
  | nil => exact List.Pairwise.nil
  | cons t ts ih => exact insertTag_pairwise t ih

theorem State.mem_announced (s : State) (f : Feeder) (x : Tag) :
    x ∈ s.announced f ↔
      (x = 0 ∧ s.inputs.earth[f] = true) ∨ s.sections[f].blocks.any (fun b => decide (b.tag = x)) = true := by
  rw [State.announced, mem_ascending, List.mem_append, List.any_eq_true]
  refine or_congr ?_ ?_
  · unfold State.earthed
    split
    next h => simp [h]
    next h => simp [h]
  · simp

/-! ## PLACE_BLOCK and REMOVE_BLOCK (07 R120 to R124) -/

theorem Section.hasEntry_eq (x : Section) (p : Port) (tag : Tag) :
    x.hasEntry p tag = x.blocks.any fun b => decide (b.origin = p ∧ b.tag = tag) := by
  unfold Section.hasEntry
  congr 1
  funext b
  rw [Bool.decide_and]

theorem openFirst_invalid_iff (first : Byte) : 1 < first.toNat ↔ first ≠ 0 ∧ first ≠ 1 := by
  constructor
  · rintro h
    constructor <;> rintro rfl <;> simp at h
  · rintro ⟨h0, h1⟩
    have hz : first.toNat ≠ 0 := fun h => h0 (BitVec.eq_of_toNat_eq h)
    have ho : first.toNat ≠ 1 := fun h => h1 (BitVec.eq_of_toNat_eq h)
    omega

theorem FeederState.entryActive_eq (x : FeederState) :
    x.entryActive = !decide (x = .closed ∨ x = .tripping ∨ x = .stuck) := by
  cases x <;> rfl

theorem State.placeEntry_eq {s t : State} {f : Feeder} (ht : s.barFeeder f .blockOpen = t) {waits : Bool}
    (hw : (s.fstate f).entryActive = !waits) (p : Port) (tag : Tag) :
    s.placeEntry p f tag =
      ⟨(({ t with
          sections := t.sections.set f { t.sections[f] with blocks := t.sections[f].blocks ++ [⟨p, tag, !waits⟩] } } :
          State).append .blockPlaced (.sec f) (.blockPlaced p (!waits)) tag.toNat).announce t f, .accepted,
        [if waits then 1 else 0]⟩ := by
  subst ht
  unfold State.placeEntry
  rw [hw]
  cases waits <;> rfl

/-- Settles O42, by the feeder that the byte names, and by the order of the announced set. -/
theorem blocksArePlacedAndRemoved : Obligations.BlocksArePlacedAndRemoved := by
  intro p n tag first s place remove notices own u placed v removed
  have hown (x : Section) : x.hasEntry p tag = own x := x.hasEntry_eq p tag
  have hplaced : u.forFeeder n (u.placeBlock p tag first) = placed := by
    unfold State.forFeeder placed
    cases feederOf n with
    | none => rfl
    | some f =>
      dsimp only
      unfold State.placeBlock
      refine if_congr (or_congr Iff.rfl (openFirst_invalid_iff first)) rfl (if_congr (by rw [hown]) rfl
        (if_congr Iff.rfl rfl (if_congr Iff.rfl rfl ?_)))
      exact State.placeEntry_eq (u.barFeeder_eq f .blockOpen) (FeederState.entryActive_eq _) p tag
  have hremoved : v.forFeeder n (v.removeBlock p tag) = removed := by
    unfold State.forFeeder removed
    cases feederOf n with
    | none => rfl
    | some f =>
      dsimp only
      unfold State.removeBlock
      rw [hown]
      refine if_congr Iff.rfl rfl (if_congr Iff.rfl ?_ rfl)
      simp only [← Bool.decide_and]
      rfl
  refine ⟨?_, ?_, fun f => ⟨ascending_pairwise _, fun x => s.mem_announced f x⟩⟩
  · rw [← hplaced]
    rfl
  · rw [← hremoved]
    rfl

/-! ## Earth switches, the selector, the start hold and the interlock (07 R119, R125, R126, R131, R132) -/

theorem State.authority_eq (s : State) : s.authority = if s.inputs.selector = .localPos then .s else .c := by
  unfold State.authority
  cases s.inputs.selector <;> rfl

theorem State.interlock_eq (s : State) (f : Feeder) (auto : Bool) :
    s.interlock f auto =
      if s.inputs.earth[f] then .earthed
      else if s.sections[f].blocks ≠ [] then .localBlock
      else if s.sections[f].peers ≠ [] ∨ s.sections[f].overflow = true then .peerBlock
      else if s.inputs.eoff then .eoff
      else if s.startHold then .hold
      else if auto = true ∧ s.sections[f].coord = .mismatch then .mismatch
      else .pass := by
  unfold State.interlock Section.holdsLocal Section.holdsPeer
  simp only [Bool.not_eq_true', List.isEmpty_eq_false_iff, Bool.or_eq_true, Bool.and_eq_true, decide_eq_true_eq]
  rfl

/-- Settles O43, input by input. -/
theorem earthSelectorHoldAndInterlock : Obligations.EarthSelectorHoldAndInterlock := by
  intro f p pos auto s shown c opened selected u holder released x
  have hopened : (s.showEarth f true).barFeeder f .earth = opened := State.barFeeder_eq _ f .earth
  refine ⟨?_, ?_, ?_, ?_, s.interlock_eq f auto⟩
  · rw [← hopened]
    change execEarthSwitchClosed f s = _
    unfold execEarthSwitchClosed
    exact answer_ite Iff.rfl rfl rfl
  · exact answer_ite (p := s.earthed f = true) Iff.rfl rfl rfl
  · refine answer_ite (p := s.inputs.selector = pos) Iff.rfl rfl ?_
    change Host.Outcome.next (selected.append .authority (.port selected.authority) (.selector pos) 0) = _
    rw [selected.authority_eq]
  · have hreleased : u.authorised p (u.releaseHold p) = released := by
      rw [u.authorised_eq, u.authority_eq]
      rfl
    rw [← hreleased]
    rfl

/-! ## Peer requests and coordination (07 R127 to R130, R133) -/

theorem State.modSection_self (s : State) (f : Feeder) (g : Section → Section) :
    (s.modSection f g).sections[f] = g s.sections[f] := by
  rw [State.modSection_get, if_pos rfl]

theorem State.modSection_modSection (s : State) (f : Feeder) (g h : Section → Section) :
    (s.modSection f g).modSection f h = s.modSection f fun x => h (g x) := by
  unfold State.modSection
  simp only [Vector.set_set, Fin.getElem_fin, Vector.getElem_set_self]

theorem State.overflowEntry_eq (s : State) (f : Feeder) (was now : Bool) (tag : Tag) :
    s.overflowEntry f was now tag =
      if now = true ∧ was = false then s.append .blockPlaced (.sec f) .placedPeerOverflow tag.toNat
      else if now = false ∧ was = true then s.append .blockRemoved (.sec f) .removedPeerOverflow 0
      else s := by
  cases was <;> cases now <;> rfl

theorem State.writeSummary_eq (s : State) (f : Feeder) (y : Summary) {seen : Section}
    (h : { s.sections[f] with summary := some ⟨y.closed, y.earthed⟩ } = seen) :
    s.writeSummary f y =
      if s.sections[f].overflow = true ∧ y.count + (if y.earthed then 1 else 0) ≤ s.sections[f].peers.length then
        ({ s with sections := s.sections.set f { seen with overflow := false } } : State).append .blockRemoved (.sec f)
          .removedPeerOverflow 0
      else { s with sections := s.sections.set f seen } := by
  subst h
  unfold State.writeSummary
  dsimp only
  rw [State.modSection_self, State.modSection_modSection]
  refine if_congr ?_ rfl rfl
  rw [Bool.and_eq_true, decide_eq_true_eq]

theorem State.setCoordination_eq {s kept : State} {f : Feeder} {v : Coordination}
    (hkept : (s.modSection f fun x => { x with
      coord := v, summary := if v = .uncoordinated ∨ v = .single then none else x.summary }) = kept) (standing : Bool) :
    s.setCoordination f v standing =
      if s.sections[f].coord = v then s
      else
        ((kept.coordDemand f v).append .coordination (.sec f) (.coordination v)
          (match s.sections[f].mapping with
            | some m => m.index.val
            | none => -1)).onsetIf (standing && s.sections[f].mapping.isSome && v != .coordinated) .uncoordinated := by
  subst hkept
  rfl

/-- Settles O44, request by request. -/
theorem peerRequestsAndCoordinationAct : Obligations.PeerRequestsAndCoordinationAct := by
  intro s f tag tags y v standing x put bar distinct new more listed acted gone come seen kept demanded told
  have hbar (t : State) : t.barFeeder f .blockOpen = bar t := t.barFeeder_eq f .blockOpen
  refine ⟨?_, rfl, ?_, s.writeSummary_eq f y rfl, ?_⟩
  · unfold State.addPeer
    simp only [hbar]
    rfl
  · have hacted : (if listed.sections[f].holdsPeer then listed.barFeeder f .blockOpen else listed) = acted := by
      rw [hbar, show listed.sections[f] = { x with peers := new, overflow := more } from
        s.modSection_self f fun x => { x with peers := new, overflow := more }]
      refine if_congr ?_ rfl rfl
      simp only [Section.holdsPeer, Bool.or_eq_true, Bool.not_eq_true', List.isEmpty_eq_false_iff]
    have hcome : (((acted.tagEntries f .blockRemoved .removedPeer (x.peers.filter fun t => !new.contains t)).tagEntries f
        .blockPlaced .placedPeer (new.filter fun t => !x.peers.contains t))) = come := rfl
    change ((((if listed.sections[f].holdsPeer then listed.barFeeder f .blockOpen else listed).tagEntries f .blockRemoved
      .removedPeer (x.peers.filter fun t => !new.contains t)).tagEntries f .blockPlaced .placedPeer
      (new.filter fun t => !x.peers.contains t))).overflowEntry f x.overflow more (distinct.getD 4 0) = _
    rw [hacted, hcome, State.overflowEntry_eq]
  · have hdemanded : kept.coordDemand f v = demanded := by
      unfold demanded
      cases v <;> rfl
    rw [State.setCoordination_eq (kept := kept) rfl, hdemanded]
    refine if_congr Iff.rfl rfl ?_
    change told.onsetIf _ _ = _
    unfold State.onsetIf
    refine if_congr ?_ rfl rfl
    rw [Bool.and_eq_true, Bool.and_eq_true, bne_iff_ne, and_assoc]

end Sys2Proof.Machine
end


section
/-! PROOFS. The peer links (08): STATUS by the link state, and the frames of intertrips, notices and blocks. -/

-- One text with the model: proofs elaborated side by side would need more threads than the check's memory holds.
set_option Elab.async false

namespace Sys2Proof.Machine

/-! ## A link after other operations -/

theorem State.modLink_self (s : State) (l : Link) (g : LinkUnit → LinkUnit) : (s.modLink l g).links.get l = g (s.links.get l) := by
  rw [State.modLink_get, if_pos rfl]

theorem isSome_ite_eq {α β : Type} (o : Option α) (a b : β) : (if o.isSome then a else b) = if o = none then b else a := by
  cases o <;> rfl

theorem State.restartLoss_eq (s : State) (l : Link) :
    s.restartLoss l = { s with links := s.links.set l { s.links.get l with
      loss := if (s.links.get l).loss = none then none else some (msTicks (s.g .linkLossTime)) } } := by
  unfold State.restartLoss
  simp only [isSome_ite_eq]
  rfl

/-- The reception of a well-formed frame, by the reset silence. -/
theorem State.receive_eq {s : State} {l : Link} {x : PeerFrame} (hwf : x.wellFormed = true) {fresh : State}
    (hfresh : s.restartLoss l = fresh) :
    s.receive l x = if (s.links.get l).silence ≠ none then s.countIgnored l else (fresh.takeFrame l x).settle := by
  subst hfresh
  unfold State.receive
  rw [hwf]
  refine (if_neg (by decide)).trans (if_congr ?_ rfl rfl)
  rw [Option.isSome_iff_ne_none]

theorem State.receive_of_bad {s : State} {l : Link} {x : PeerFrame} (hwf : ¬ x.wellFormed = true) :
    s.receive l x = s.countBad l := if_pos (by rw [Bool.eq_false_of_not_eq_true hwf]; rfl)

/-! ## STATUS (08 R140 to R142) -/

theorem Mapping.evaluate_eq (m : Mapping) (v : Vector Summary 4) :
    m.evaluate v = if v[m.index].configured = true ∧ v[m.index].role ≠ m.role then .coordinated else .mismatch := by
  unfold Mapping.evaluate
  exact if_congr (by rw [Bool.and_eq_true, bne_iff_ne]) rfl rfl

theorem State.askBecame_eq (s before : State) (l : Link) :
    s.askBecame before l =
      ((s.sectionsOf l).filter fun f =>
        decide (s.sections[f].coord = .coordinated ∧ before.sections[f].coord ≠ .coordinated)).foldl
        (fun t f => t.askFor f .blockSet) s := by
  unfold State.askBecame State.coordinatedOf
  rw [List.filter_filter]
  congr 2
  funext f
  rw [Bool.decide_and, Bool.and_comm, decide_not]
  rfl

theorem PeerFrame.status_wellFormed_iff (v : Vector Summary 4) :
    (PeerFrame.status v).wellFormed = true ↔ ∀ i : Index, v[i].count ≤ 4 := by
  simp only [PeerFrame.wellFormed, List.all_eq_true, Summary.wellFormed, decide_eq_true_eq, Vector.mem_toList_iff]
  constructor
  · exact fun h i => h v[i] (Vector.getElem_mem i.isLt)
  · intro h x hx
    obtain ⟨i, hi, rfl⟩ := Vector.mem_iff_getElem.mp hx
    exact h ⟨i, hi⟩

/-- A STATUS outside the reset silence, by the link state; `handled` is what a STATUS does in UP. -/
theorem State.takeStatus_eq {s : State} {l : Link} {v : Vector Summary 4} {handled : State → State}
    (hhandled : ∀ t : State, t.handleStatus l v = handled t) {up : State}
    (hup : handled (s.modLink l fun k => { k with state := .up, refresh := some Config.refreshTicks }) = up) :
    s.takeStatus l v = match (s.links.get l).state with
      | .down =>
        (s.modLink l fun k => { k with state := .checking, loss := some s.lossTicks }).append .linkState (.link l)
          (.linkState .checking) 0
      | .checking =>
        up.append .linkState (.link l) (.linkState (up.links.get l).state) (up.coordinatedOf l).length
      | .up => handled s := by
  unfold State.takeStatus
  simp only [hhandled, hup]
  cases (s.links.get l).state
  · unfold State.linkEntry
    rw [State.modLink_self]
  · rfl
  · rfl

/-- Settles O45, by the state of the link. -/
theorem statusIsTakenByLinkState : Obligations.StatusIsTakenByLinkState := by
  intro l v s k ticks fresh put summaries own judge evaluated handled up
  have hsummaries (t : State) : t.takeSummaries l v = summaries t := rfl
  have hevaluated (t : State) : (t.sectionsOf l).foldl (fun s f => s.evaluateSection l v f) t = evaluated t := by
    refine congrArg (fun op : State → Feeder → State => (t.sectionsOf l).foldl op t) (funext fun t => funext fun f => ?_)
    unfold State.evaluateSection
    simp only [Mapping.evaluate_eq]
    cases t.sections[f].mapping <;> rfl
  have hhandled (t : State) : t.handleStatus l v = handled t := by
    unfold State.handleStatus
    rw [hsummaries]
    dsimp only
    rw [hevaluated, State.askBecame_eq]
    rfl
  have hfresh : s.restartLoss l = fresh := s.restartLoss_eq l
  have hstate : (fresh.links.get l).state = k.state := by
    rw [← hfresh, State.restartLoss, State.modLink_self]
  change Host.Outcome.next (s.receive l (.status v)) = _
  refine congrArg Host.Outcome.next ?_
  by_cases hwf : ∀ i : Index, v[i].count ≤ 4
  · rw [if_neg (not_not.mpr hwf), State.receive_eq ((PeerFrame.status_wellFormed_iff v).mpr hwf) hfresh]
    refine if_congr Iff.rfl rfl (congrArg State.settle ?_)
    change fresh.takeStatus l v = _
    rw [State.takeStatus_eq hhandled (up := up) rfl, hstate]
    cases k.state
    · rfl
    · refine congrArg (fun n : Nat => up.append .linkState (.link l) (.linkState (up.links.get l).state) (n : Int)) ?_
      rfl
    · rfl
  · rw [if_pos hwf, State.receive_of_bad fun h => hwf ((PeerFrame.status_wellFormed_iff v).mp h)]
    rfl

end Sys2Proof.Machine
end


section
/-! PROOFS. The frames of the peer links (08): intertrips, notices and blocks received, frames asked for and sent. -/

-- One text with the model: proofs elaborated side by side would need more threads than the check's memory holds.
set_option Elab.async false

namespace Sys2Proof.Machine

/-! ## Intertrips and notices (08 R148 to R153) -/

theorem State.interlock_congr {s t : State} (hinputs : t.inputs = s.inputs) (hsections : t.sections = s.sections)
    (hhold : t.startHold = s.startHold) (f : Feeder) (a : Bool) : t.interlock f a = s.interlock f a := by
  simp only [State.interlock_eq, hinputs, hsections, hhold]

theorem State.intertripFeeder_eq {s : State} {f : Feeder} {x : FeederState} (hx : s.ctx[f].state = x) {n : Byte}
    (hn : s.newestSeq = n) {blank : Nat} (hblank : s.disc[f].blank = blank) (id : Byte) :
    s.intertripFeeder f id = match x with
      | .closed => s.protectionTrip f .intertripRx id.toNat n blank
      | .deadTime | .queued | .testing | .waitPeer => (s.undoReclose f).failedAttempt f .failedIntertrip
      | .opened | .locked | .closing | .tripping | .stuck => s := by
  subst hx hn hblank
  unfold State.intertripFeeder State.fstate
  cases s.ctx[f].state <;> rfl

/-- A RESTORED notice after its entry, by the context and the interlock that the entry leaves alone. -/
theorem State.restoredFeeder_eq {s t : State} {f : Feeder} {c : Context} (hc : s.ctx[f] = c)
    (ht : s.append .peerNotice (.sec f) .noticeRestored 0 = t) :
    s.restoredFeeder f =
      if c.state ≠ .waitPeer then t
      else if s.interlock f true = .pass then
        { t with ctx := t.ctx.set f { c with
          state := .closing, auto := true, wait := none, followTimer := none
          closeTimer := some (msTicks (s.g .closeTimeMax)) } }
      else ({ t with ctx := t.ctx.set f c.toOpened } : State).append .opened (.feeder f) (.tripCause .interlock) 0 := by
  have hframe := s.append_only .peerNotice (.sec f) .noticeRestored 0
  rw [ht] at hframe
  have htc : t.ctx[f] = c := by rw [hframe.ctx, hc]
  have hcloses : (t.modCtx f fun c => { c with auto := true }).enterClosing f =
      { t with ctx := t.ctx.set f { c with
        state := .closing, auto := true, wait := none, followTimer := none
        closeTimer := some (msTicks (s.g .closeTimeMax)) } } := by
    have hself : (t.modCtx f fun c => { c with auto := true }).ctx[f] = { c with auto := true } := by
      rw [State.modCtx_self, htc]
    have hn : (t.modCtx f fun c => { c with auto := true }).g .closeTimeMax = s.g .closeTimeMax :=
      congrArg (fun st : Settings => st.g .closeTimeMax) hframe.settings
    rw [State.enterClosing_eq hself hn]
    simp only [State.modCtx_ctx, Vector.set_set]
    rfl
  unfold State.restoredFeeder
  rw [ht]
  dsimp only
  rw [State.fstate, htc, State.interlock_congr hframe.inputs hframe.sections hframe.startHold, ite_not, hcloses,
    State.interlockFails, State.modCtx_of_eq htc]

/-- Settles O46, frame by frame. -/
theorem intertripAndNoticeFramesAct : Obligations.IntertripAndNoticeFramesAct := by
  intro l i id tag tags s k put at' ignored fresh take mapped heard acked kept requested restored
  have hfresh : s.restartLoss l = fresh := s.restartLoss_eq l
  have hlink : fresh.links.get l = { k with
      loss := if k.loss = none then none else some ((s.g .linkLossTime).toNat * 10000) } := by
    rw [PerLink.get_set, if_pos rfl]
  have htake {x : PeerFrame} (hwf : x.wellFormed = true) {t : State} (ht : fresh.takeFrame l x = t) :
      s.receive l x = take t := by
    rw [State.receive_eq hwf hfresh, ht]
    rfl
  have htakeFor (act : State → Feeder → State) : fresh.takeFor l i act = heard (act fresh) := by
    unfold State.takeFor
    change (match s.feederAt l i with | none => _ | some f => _) = _
    unfold heard mapped
    cases s.feederAt l i with
    | none => rfl
    | some f => exact if_congr (by rw [hlink]) rfl rfl
  have hrequested : fresh.takeTripReq l i id = mapped requested := by
    unfold State.takeTripReq
    change (match s.feederAt l i with | none => _ | some f => _) = _
    unfold mapped
    cases s.feederAt l i with
    | none => rfl
    | some f =>
      refine if_congr (by rw [hlink]) rfl ?_
      have hframe : (at' acked fun x => { x with lastRx := some id }).JournalOnly (kept f) := State.append_only _ _ _ _ _
      exact State.intertripFeeder_eq (s := kept f) (f := f) (by rw [hframe.ctx]; rfl)
        (show (kept f).newestSeq = _ from congrArg (fun u : SampleUnit => (u.newest.map Delivered.seq).getD 0) hframe.sample)
        (congrArg (fun d : Vector Disc 6 => d[f].blank) hframe.disc) id
  have hacked : fresh.takeTripAck l i id = match k.idx[i].out with
      | none => fresh
      | some o =>
        if o.id = id then
          (at' fresh fun x => { x with out := none }).append .peerNotice (.sec o.feeder) .noticeTripAck id.toNat
        else fresh := by
    unfold State.takeTripAck
    rw [show (fresh.links.get l).idx[i] = k.idx[i] by rw [hlink]]
    cases k.idx[i].out <;> rfl
  have hrestored (f : Feeder) : fresh.restoredFeeder f = restored f :=
    State.restoredFeeder_eq rfl rfl
  refine ⟨congrArg Host.Outcome.next (htake rfl hrequested), congrArg Host.Outcome.next (htake rfl hacked),
    congrArg Host.Outcome.next (htake rfl ((htakeFor _).trans (congrArg heard (funext hrestored)))),
    congrArg Host.Outcome.next (htake rfl (htakeFor _)),
    congrArg Host.Outcome.next (htake rfl (htakeFor fun t f => t.addPeer f tag)),
    congrArg Host.Outcome.next (htake rfl (htakeFor fun t f => t.delPeer f tag)), congrArg Host.Outcome.next ?_⟩
  by_cases hwf : 5 < tags.length
  · rw [if_pos hwf]
    exact State.receive_of_bad fun h => Nat.not_lt.mpr (of_decide_eq_true h) hwf
  · rw [if_neg hwf]
    exact htake (x := .blockSet i tags) (decide_eq_true (Nat.not_lt.mp hwf)) (htakeFor fun t f => t.replacePeers f tags)

end Sys2Proof.Machine
end


section
/-! PROOFS. Frames asked for and sent, and the timers of the peer links (08). -/

-- One text with the model: proofs elaborated side by side would need more threads than the check's memory holds.
set_option Elab.async false

namespace Sys2Proof.Machine

/-! ## Frames asked for and sent (08 R135 to R138, R146, R152) -/

/-- A valid frame is received as the command that it is. -/
theorem exec_command (s : State) (l : Link) (x : PeerFrame) : exec (x.command l) s = .next (s.receive l x) := by
  cases x <;> rfl

theorem LinkUnit.ask_eq (k : LinkUnit) (x : Frame) {again : Bool}
    (h : (match x with
      | .status | .blockSet _ => k.queue.contains x
      | .tripReq _ _ | .tripAck _ _ | .restored _ | .lockout _ | .blockAdd _ _ | .blockDel _ _ => false) = again) :
    k.ask x = if again then k
      else if k.queue.length < 16 then { k with queue := k.queue ++ [x] }
      else { k with dropped := satInc 65535 k.dropped } := by
  subst h
  cases x <;> rfl

theorem State.sendable_eq (s : State) (l : Link) (x : Frame) :
    s.sendable l x = match x with
      | .status | .tripReq _ _ | .tripAck _ _ => true
      | .restored i | .lockout i | .blockAdd i _ | .blockDel i _ | .blockSet i => (s.feederAt l i).isSome := by
  cases x <;> rfl

/-- The transmitter removes the heads that cannot be sent and sends the next. -/
theorem State.transmitFrom_eq (s : State) (l : Link) (q : List Frame) :
    s.transmitFrom l q = match q.dropWhile fun x => !s.sendable l x with
      | [] => s.modLink l fun k => { k with queue := [] }
      | x :: rest => s.modLink l fun k => { k with queue := rest, sent := encodeFrame (s.formFrame l x) } := by
  induction q with
  | nil => rfl
  | cons x rest ih =>
    unfold State.transmitFrom
    rw [List.dropWhile_cons]
    cases hx : s.sendable l x
    · exact ih
    · rfl

theorem State.summaryOf_eq (s : State) (l : Link) (i : Index) :
    s.summaryOf l i = match s.feederAt l i with
      | none => ⟨false, .lead, false, false, 0⟩
      | some g =>
        ⟨true, (s.sections[g].mapping.map Mapping.role).getD .lead, s.inputs.breaker[g], s.inputs.earth[g],
          s.sections[g].blocks.length⟩ := by
  unfold State.summaryOf
  cases s.feederAt l i <;> rfl

theorem ofFn_four {α : Type} (g : Index → α) : Vector.ofFn g = #v[g 0, g 1, g 2, g 3] := by
  ext i hi
  rw [Vector.getElem_ofFn]
  match i, hi with
  | 0, _ => rfl
  | 1, _ => rfl
  | 2, _ => rfl
  | 3, _ => rfl

/-- Settles O47, frame by frame. -/
theorem framesAreJudgedAskedForAndSent : Obligations.FramesAreJudgedAskedForAndSent := by
  intro l rx x f s k put again mapped goes summary formed
  have hgoes (y : Frame) : s.sendable l y = goes y := by
    refine (s.sendable_eq l y).trans ?_
    cases y <;> rfl
  have hformed (y : Frame) : s.formFrame l y = formed y := by
    have hsummary (i : Index) : s.summaryOf l i = summary i := s.summaryOf_eq l i
    cases y
    case status =>
      unfold State.formFrame
      simp only [hsummary, ofFn_four]
      rfl
    all_goals rfl
  refine ⟨?_, ?_, ?_, ?_⟩
  · change execBadFrame l rx s = _
    unfold execBadFrame
    cases judgeFrame rx with
    | none => rfl
    | some y => exact (exec_command s l y).symm
  · change put s l (k.ask x) = _
    have hagain : (match x with
        | .status | .blockSet _ => k.queue.contains x
        | .tripReq _ _ | .tripAck _ _ | .restored _ | .lockout _ | .blockAdd _ _ | .blockDel _ _ => false) = again := by
      unfold again
      cases x <;> rfl
    rw [LinkUnit.ask_eq k x hagain]
  · unfold State.sendTripReq
    cases s.sections[f].mapping <;> rfl
  · change execFrameTransmit l s = _
    unfold execFrameTransmit
    refine answer_ite Option.isSome_iff_ne_none rfl (congrArg Host.Outcome.next ?_)
    rw [State.transmitFrom_eq]
    simp only [hgoes, hformed]
    cases k.queue.dropWhile fun y => !goes y <;> rfl

/-! ## The timers of a link (08 R138, R139, R143, R147, R152, R155) -/

theorem LinkUnit.forget_eq (k : LinkUnit) :
    k.forget = { k with
      idx := k.idx.map fun x => { x with lastRx := none, summary := none }
      queue := k.queue.filter fun
        | .tripAck _ _ => true
        | _ => false } := by
  have hidx : (Vector.ofFn fun i : Fin 4 => ({ k.idx[i] with lastRx := none, summary := none } : IndexUnit)) =
      k.idx.map fun x => { x with lastRx := none, summary := none } := by
    ext1 i hi
    simp
  unfold LinkUnit.forget
  rw [hidx]
  congr 2
  funext x
  cases x <;> rfl

theorem State.mappedTo_iff (s : State) (l : Link) : s.mappedTo l = true ↔ s.sectionsOf l ≠ [] := by
  unfold State.mappedTo State.sectionsOf
  rw [List.any_eq_true, ne_eq, List.filter_eq_nil_iff]
  push Not
  rfl

/-- The outstanding intertrip of an index is cancelled, with a demand and an entry that says why. -/
def State.giveUp (s : State) (l : Link) (i : Index) (d : Detail) : State :=
  match (s.links.get l).idx[i].out with
  | none => s
  | some o =>
    ((s.modIndex l i fun x => { x with out := none }).lockoutDemand o.feeder .intertripUnack).append .intertripUnack
      (.sec o.feeder) d o.id.toNat

theorem State.retryIntertrip_eq (s : State) {l : Link} {i : Index} {o : Outstanding}
    (h : (s.links.get l).idx[i].out = some o) :
    s.retryIntertrip l i o =
      if o.sends < 3 then
        (s.modIndex l i fun x => { x with out := some { o with sends := o.sends + 1, retry := Config.retryTicks } }).ask l
          (.tripReq i o.id)
      else s.giveUp l i .unackNoAck := by
  unfold State.retryIntertrip State.giveUp
  rw [h]

/-- Settles O48, timer by timer. -/
theorem linkTimersExpire : Obligations.LinkTimersExpire := by
  intro l i s k put own cancelled a b c d
  have hcancelled (t : State) (j : Index) (e : Detail) : t.giveUp l j e = cancelled t j e := by
    unfold State.giveUp cancelled
    cases (t.links.get l).idx[j].out <;> rfl
  have ha : indices.foldl (fun t j => t.loseIntertrip l j)
      (s.modLink l fun k => { k with state := .down, loss := none, refresh := none }) = a := rfl
  have hb : (a.sectionsOf l).foldl State.loseSection a = b := rfl
  have hc : b.modLink l LinkUnit.forget = c :=
    congrArg (fun u : LinkUnit => ({ b with links := b.links.set l u } : State)) (LinkUnit.forget_eq _)
  have hlost : s.loseLink l = if k.state = .up ∧ own d ≠ [] then d.onset (linkLatch l) else d := by
    unfold State.loseLink
    simp only [ha, hb, hc]
    change d.onsetIf (k.state = .up && d.mappedTo l) (linkLatch l) = _
    unfold State.onsetIf
    refine if_congr ?_ rfl rfl
    rw [Bool.and_eq_true, decide_eq_true_eq, State.mappedTo_iff]
    rfl
  refine ⟨?_, ?_, ?_, ?_, ?_⟩
  · exact answer_of_expired k.heartbeat rfl
  · refine answer_of_expired k.loss (answer_ite Iff.rfl rfl (congrArg Host.Outcome.next ?_))
    rw [hlost]
    cases l <;> rfl
  · exact answer_of_expired k.refresh rfl
  · change execRetryExpiry l i s = _
    unfold execRetryExpiry
    have hretry (o : Outstanding) (h : k.idx[i].out = some o) :=
      (s.retryIntertrip_eq h).trans (if_congr Iff.rfl rfl (hcancelled s i .unackNoAck))
    cases ho : k.idx[i].out with
    | none => rfl
    | some o =>
      dsimp only
      rw [hretry o ho, ite_not]
      rfl
  · exact answer_of_expired k.silence rfl

end Sys2Proof.Machine
end


section
/-! PROOFS. A slot is taken and filled (09). -/

-- One text with the model: proofs elaborated side by side would need more threads than the check's memory holds.
set_option Elab.async false

namespace Sys2Proof.Machine

/-! ## The rings around a trigger (09 R166) -/

/-- The rows after the newest one that carries the trigger's number. -/
def rowsAfter (rows : List RingRow) (trigger : Byte) : List RingRow :=
  (rows.reverse.takeWhile fun r => decide (r.seq ≠ trigger)).reverse

/-- The rows up to and including the newest one that carries the trigger's number. -/
def rowsUpTo (rows : List RingRow) (trigger : Byte) : List RingRow :=
  (rows.reverse.dropWhile fun r => decide (r.seq ≠ trigger)).reverse

theorem rowsUpTo_append_rowsAfter (rows : List RingRow) (trigger : Byte) :
    rowsUpTo rows trigger ++ rowsAfter rows trigger = rows := by
  unfold rowsUpTo rowsAfter
  rw [← List.reverse_append, List.takeWhile_append_dropWhile, List.reverse_reverse]

theorem splitAtTrigger_eq (rows : List RingRow) (trigger : Byte) :
    splitAtTrigger rows trigger =
      if rowsUpTo rows trigger = [] then none else some (rowsUpTo rows trigger, rowsAfter rows trigger) := by
  have hne : (fun r : RingRow => r.seq != trigger) = fun r => decide (r.seq ≠ trigger) :=
    funext fun r => by simp [bne, beq_eq_decide]
  unfold splitAtTrigger rowsUpTo rowsAfter
  rw [hne, List.span_eq_takeWhile_dropWhile]
  cases rows.reverse.dropWhile fun r => decide (r.seq ≠ trigger) with
  | nil => rfl
  | cons r rest => simp

/-- The slot that a capture forms from the rings. -/
def slotTaken (rows : List RingRow) (f : Feeder) (cause : TripCause) (trigger : Byte) (st : SlotState) : Slot :=
  ⟨st, f, cause, trigger, (rowsUpTo rows trigger).length, (rowsAfter rows trigger).length,
    rows.map fun r => r.pair f, gapsOf rows, false⟩

/-- The capture by its three outcomes: no row carries the trigger's number, post pairs are wanted still, or none is. -/
theorem State.capture_eq (s : State) (k : Fin 8) (f : Feeder) (cause : TripCause) (trigger : Byte) :
    s.capture k f cause trigger =
      if s.sample.state = .blind ∨ rowsUpTo s.sample.rings trigger = [] then
        (s.modSlot k fun _ => ⟨.filling, f, cause, trigger, 0, 0, [], 0, false⟩).sealTruncated k
      else if (rowsAfter s.sample.rings trigger).length < 192 then
        s.modSlot k fun _ => slotTaken s.sample.rings f cause trigger .filling
      else (s.modSlot k fun _ => slotTaken s.sample.rings f cause trigger .sealed).retire := by
  unfold State.capture
  rw [splitAtTrigger_eq]
  by_cases hblind : s.sample.state = .blind
  · rw [if_pos hblind, if_pos (Or.inl hblind)]
  · rw [if_neg hblind]
    by_cases hnone : rowsUpTo s.sample.rings trigger = []
    · rw [if_pos hnone, if_pos (Or.inr hnone)]
    · rw [if_neg hnone, if_neg (not_or.mpr ⟨hblind, hnone⟩)]
      dsimp only
      rw [rowsUpTo_append_rowsAfter]
      rfl

/-! ## The slots (09 R166, R168) -/

theorem State.sealSame_eq (s : State) (f : Feeder) :
    s.sealSame f =
      match slotNos.find? fun k => decide (s.slots[k].state = .filling ∧ s.slots[k].feeder = f) with
      | some k => s.sealTruncated k
      | none => s := by
  have htest : (fun k : Fin 8 => decide (s.slots[k].state = .filling) && decide (s.slots[k].feeder = f)) =
      fun k => decide (s.slots[k].state = .filling ∧ s.slots[k].feeder = f) :=
    funext fun k => (Bool.decide_and _ _).symm
  unfold State.sealSame
  rw [htest] <;> rfl

theorem State.onsetIf_isNone {α : Type} (s : State) (o : Option α) (b : Latch) [Decidable (o = none)] :
    s.onsetIf o.isNone b = if o = none then s.onset b else s := by
  cases o with
  | none => rw [if_pos rfl]; rfl
  | some a => rw [if_neg (Option.some_ne_none a)]; rfl

theorem State.requestSlot_eq (s : State) (f : Feeder) (cause : TripCause) (trigger : Byte) :
    s.requestSlot f cause trigger =
      match (s.sealSame f).freeSlotNo with
      | none => (none, (s.sealSame f).append .recordMissed (.feeder f) (.tripCause cause) trigger.toNat)
      | some k =>
        let t := (s.sealSame f).modSlot k fun x => { x with state := .filling }
        let t := if t.freeSlotNo = none then t.onset .poolEmpty else t
        (some k, t.capture k f cause trigger) := by
  unfold State.requestSlot
  dsimp only
  cases (s.sealSame f).freeSlotNo with
  | none => rfl
  | some k => dsimp only; rw [State.onsetIf_isNone]

theorem State.fillSlot_eq (s : State) (k : Fin 8) (row : RingRow) :
    s.fillSlot k row =
      let filled := s.modSlot k fun x =>
        { x with
          pairs := x.pairs ++ [row.pair x.feeder]
          post := x.post + 1
          gaps := if row.mark then satInc 255 x.gaps else x.gaps }
      if s.slots[k].post + 1 < 192 then filled
      else (filled.modSlot k fun x => { x with state := .sealed }).retire := by
  unfold State.fillSlot
  dsimp only
  rw [State.modSlot_get, if_pos rfl]
  rfl

theorem State.onset_ite_sample (t : State) (b : Latch) (c : Prop) [Decidable c] :
    (if c then t.onset b else t).sample = t.sample := by
  split <;> rfl

/-- Settles O50. -/
theorem recorderTakesAndFillsSlots : Obligations.RecorderTakesAndFillsSlots := by
  intro s f cause trigger k row put sealed all u free pair newer upTo slot filled
  refine ⟨?_, s.fillSlot_eq k row, rfl⟩
  have hu : s.sealSame f = u := s.sealSame_eq f
  have hnewer : (rowsAfter u.sample.rings trigger).length = newer.length := List.length_reverse
  have hslot : ∀ st : SlotState, slotTaken u.sample.rings f cause trigger st = slot st := fun st => by
    unfold slotTaken
    rw [hnewer]
    rfl
  rw [State.requestSlot_eq, hu]
  cases hfree : free u with
  | none =>
    have hnone : u.freeSlotNo = none := hfree
    rw [hnone]
  | some j =>
    have hsome : u.freeSlotNo = some j := hfree
    rw [hsome]
    refine congrArg (Prod.mk (some j)) ?_
    rw [State.capture_eq, State.onset_ite_sample, State.modSlot_sample, hnewer, hslot, hslot]
    rfl

end Sys2Proof.Machine

end


section
/-! PROOFS. The transactions of a port (10). -/

-- One text with the model: proofs elaborated side by side would need more threads than the check's memory holds.
set_option Elab.async false

namespace Sys2Proof.Machine

/-! ## The status byte (10 R175) -/

/-- The five bits of a status byte stand apart, so that their join is their sum. -/
theorem statusBits_eq (a b c d e : Bool) :
    ((if a then 0x80 else 0) ||| (if b then 0x40 else 0) ||| (if c then 0x20 else 0) ||| (if d then 0x10 else 0)
      ||| (if e then 0x08 else 0) : Byte) =
      BitVec.ofNat 8 ((if a then 128 else 0) + (if b then 64 else 0) + (if c then 32 else 0) + (if d then 16 else 0)
        + if e then 8 else 0) := by
  revert a b c d e
  decide

theorem statusByte_of_iff {A B C D E A' B' D' : Prop} [Decidable A] [Decidable B] [Decidable C] [Decidable D]
    [Decidable E] [Decidable A'] [Decidable B'] [Decidable D'] (hA : A ↔ A') (hB : B ↔ B') (hD : D ↔ D') :
    ((if A then 0x80 else 0) ||| (if B then 0x40 else 0) ||| (if C then 0x20 else 0) ||| (if D then 0x10 else 0)
      ||| (if E then 0x08 else 0) : Byte) =
      BitVec.ofNat 8 ((if A' then 128 else 0) + (if B' then 64 else 0) + (if C then 32 else 0) + (if D' then 16 else 0)
        + if E then 8 else 0) := by
  simpa only [decide_eq_true_eq, hA, hB, hD] using statusBits_eq (decide A) (decide B) (decide C) (decide D) (decide E)

theorem State.attention_iff (s : State) (p : Port) :
    s.attention p = true ↔ (s.ports.get p).latches ≠ 0 ∨
      (s.unread p).any (fun e => (s.readers.get p).mask.getLsbD e.kind.eventClass.code) = true := by
  unfold State.attention
  rw [Bool.or_eq_true, bne_iff_ne, or_comm]

theorem State.authority_eq_iff (s : State) (p : Port) :
    s.authority = p ↔ (s.inputs.selector = .localPos) = (p = .s) := by
  rw [State.authority_eq, eq_iff_iff]
  cases p <;> split <;> simp_all

/-! ## The select line and the bytes (10 R173, R174) -/

theorem incomplete_eq (bytes : List Byte) : incomplete bytes = bytes.take (requestLength (bytes.headD 0) - 1) := by
  cases bytes with
  | nil => exact List.take_nil.symm
  | cons code rest => rfl

theorem Phase.discards_iff (x : Phase) : x.discards = true ↔ x = .status ∨ x = .request := by
  cases x <;> decide

theorem Phase.discards_eq (x : Phase) : x.discards = decide (x = .status ∨ x = .request) := by
  cases x <;> rfl

theorem State.receiveBytes_eq (s : State) (p : Port) (bytes : List Byte) :
    s.receiveBytes p bytes =
      if incomplete bytes = [] then s
      else (s.firstByte p).modPort p fun u => { u with phase := .request, buffer := incomplete bytes } := by
  unfold State.receiveBytes
  cases incomplete bytes <;> rfl

theorem PortUnit.continues_iff (u : PortUnit) (req : List Byte) :
    u.continues req = true ↔ (u.phase = .status ∨ u.phase = .request) ∧ u.buffer.isPrefixOf req = true := by
  unfold PortUnit.continues
  rw [Bool.and_eq_true, Phase.discards_iff]

/-- The select line changes neither what a status byte shows nor what it rests on. -/
theorem State.lowerSelect_statusByte (s : State) (p : Port) : (s.lowerSelect p).statusByte p = s.statusByte p := by
  cases p <;> rfl

theorem State.setSelect_raiseSelect (s : State) (p : Port) (low : Bool) :
    Inputs.setSelect (s.raiseSelect p).inputs p low = Inputs.setSelect s.inputs p low := by
  cases p <;> rfl

theorem State.raiseSelect_eq (s : State) (p : Port) :
    s.raiseSelect p =
      { s.modPort p (fun u => { u with
          phase := .idle, buffer := []
          frameError := u.frameError || decide (u.phase = .status ∨ u.phase = .request) }) with
        inputs := Inputs.setSelect s.inputs p false } := by
  unfold State.raiseSelect
  simp only [Phase.discards_eq]
  rfl

theorem State.lowerSelect_eq (s : State) (p : Port) :
    s.lowerSelect p =
      { s.modPort p (fun u => { u with phase := .status, buffer := [] }) with
        inputs := Inputs.setSelect s.inputs p true } := rfl

/-- Settles O51. -/
theorem transactionsAreReceivedAndAnswered : Obligations.TransactionsAreReceivedAndAnswered := by
  intro p bytes code s x put u open' line isLow raised lowered first attention cut begun r
  have hline : ∀ low, Inputs.setSelect s.inputs p low = line low := by
    intro low; cases p <;> rfl
  have hlow : Inputs.select s.inputs p = isLow := by cases p <;> rfl
  have hraised : s.raiseSelect p = raised := by
    rw [State.raiseSelect_eq, hline]
    rfl
  have hcut : incomplete bytes = cut := incomplete_eq bytes
  have hlowered : s.lowerSelect p = lowered s := by
    rw [State.lowerSelect_eq, hline]
    rfl
  have hrestarted : (s.raiseSelect p).lowerSelect p = lowered raised := by
    rw [State.lowerSelect_eq, State.setSelect_raiseSelect, hline, hraised]
    rfl
  have hbegun : ((s.lowerSelect p).firstByte p).modPort p
      (fun u => { u with phase := .request, buffer := cut }) = begun := by
    rw [hlowered]
    rfl
  refine ⟨?_, ?_, ?_, ?_, ?_, rfl, ?_, rfl, ?_⟩
  · change execSelectLow p bytes s = _
    unfold execSelectLow
    rw [hlow, State.receiveBytes_eq, hcut, hbegun, hlowered]
    split <;> rfl
  · intro n
    have hget : begun.ports.get p = { (lowered s).ports.get p with
        shown := s.statusByte p, frameError := false, phase := .request, buffer := cut } := by
      rw [← hbegun, ← s.lowerSelect_statusByte p, ← hlowered]
      cases p <;> rfl
    rw [hget]
    unfold PortUnit.clockedOut
    simp
  · intro hphase hempty req
    have hcont : u.continues req = true := (u.continues_iff req).mpr ⟨Or.inl hphase, by rw [hempty]; rfl⟩
    unfold State.receiveRequest
    dsimp only
    rw [if_pos hcont, if_pos (List.isEmpty_iff.mpr hempty)]
    rfl
  · intro req n
    have hget : ((⟨s, x, bytes⟩ : Reply).respond p req).ports.get p =
        { u with phase := .response, buffer := req, response := x.code :: bytes } := by cases p <;> rfl
    rw [hget]
    unfold PortUnit.clockedOut
    simp only [true_and, ← Nat.not_lt, ite_not]
  · change execSelectRaised p s = _
    unfold execSelectRaised
    rw [hlow, hraised]
    split <;> rfl
  · unfold State.receiveRequest
    dsimp only
    rw [hrestarted]
    refine if_congr (u.continues_iff bytes) (if_congr List.isEmpty_iff rfl rfl) rfl
  · exact statusByte_of_iff (s.attention_iff p) bne_iff_ne (s.authority_eq_iff p)

end Sys2Proof.Machine

end


section
/-! PROOFS. Settings are read and written (10). -/

-- One text with the model: proofs elaborated side by side would need more threads than the check's memory holds.
set_option Elab.async false

namespace Sys2Proof.Machine

/-! ## What a setting belongs to (03 R33, R42, 08 R144) -/

theorem SettingName.ofMap_eq (n : SettingName) :
    n.ofMap = match n with
      | .feeder _ i => decide (21 ≤ i.val)
      | .glob _ => false := by
  cases n with
  | feeder f i => revert f i; decide
  | glob i => rfl

theorem SettingName.ofAlpha_eq (n : SettingName) :
    n.ofAlpha = match n with
      | .glob i => decide (4 ≤ i.val ∧ i.val ≤ 6)
      | .feeder _ _ => false := by
  cases n with
  | feeder f i => rfl
  | glob i => revert i; decide

theorem State.remapRefused_eq (s : State) (new : Settings) :
    s.remapRefused new = feeders.any fun f =>
      decide (s.sections[f].mapping ≠ new.mapping f ∧ s.ctx[f].state ≠ .opened ∧ s.ctx[f].state ≠ .locked) := by
  unfold State.remapRefused
  refine congrArg feeders.any (funext fun f => ?_)
  unfold State.fstate
  rw [Bool.decide_and, Bool.decide_and, ← Bool.and_assoc]
  simp only [bne, beq_eq_decide, decide_not]

/-! ## The effects of a changed setting (03 R33, R42, 10 R181) -/

/-- The firing angle that a write to α_min, α_max or α_inv leaves. -/
def Rectifier.alphaReformed (r : Rectifier) (st : Settings) (n : SettingName) : Int :=
  if r.state = .starting ∨ r.state = .running then
    if n = .glob 6 then r.alpha else max (st.g .alphaMin) (min r.alpha st.alphaMax')
  else if r.state = .shifting then st.alphaInv'
  else r.alpha

theorem State.reformAlpha_eq (s : State) (n : SettingName) :
    s.reformAlpha n = { s with rect := { s.rect with alpha := s.rect.alphaReformed s.settings n } } := by
  unfold State.reformAlpha Rectifier.alphaReformed
  cases hstate : s.rect.state with
  | starting => by_cases hinv : n = .glob 6 <;> simp [hinv, GlobalSetting.idx, State.modRect, State.g, clamp]
  | running => by_cases hinv : n = .glob 6 <;> simp [hinv, GlobalSetting.idx, State.modRect, State.g, clamp]
  | shifting => rfl
  | stopped => rfl
  | blocked => rfl
  | gateTest => rfl

theorem State.settingEffects_eq {s : State} {st : Settings} (hst : s.settings = st) (n : SettingName) :
    s.settingEffects n =
      if n.ofAlpha = true then { s with rect := { s.rect with alpha := s.rect.alphaReformed st n } }
      else if n = .glob 13 then s.tryRestart
      else if n.ofMap = true then s.remap
      else s := by
  subst hst
  unfold State.settingEffects
  rw [State.reformAlpha_eq]
  rfl

/-! ## The judgement of a write (10 R181) -/

theorem State.storeSetting_eq (s : State) (p : Port) (id : Nat) (n : SettingName) (v : Int) :
    s.storeSetting p id n v =
      let st := s.settings.write n v
      let stored := ({ s with settings := st } : State).append .settingChanged (.port p) (.setting id) v
      if n.ofAlpha = true then { stored with rect := { stored.rect with alpha := stored.rect.alphaReformed st n } }
      else if n = .glob 13 then stored.tryRestart
      else if n.ofMap = true then stored.remap
      else stored :=
  State.settingEffects_eq (State.append_only _ _ _ _ _).settings n

theorem State.writeValue_eq (s : State) (p : Port) (id : Nat) (n : SettingName) (v : Int) {limited : Prop}
    [Decidable limited] :
    s.writeValue p id n v (decide limited) =
      if n.ofMap = true ∧ s.remapRefused (s.settings.write n v) = true then ⟨s, .state, []⟩
      else
        let t := if s.settings.value n = v then s else s.storeSetting p id n v
        ⟨if limited then t.onset .settingsClamped else t,
          if limited then .clamped else if s.settings.value n = v then .ok else .accepted,
          bytes32 (t.settings.value n)⟩ := by
  unfold State.writeValue State.writeDone State.onsetIf
  simp only [decide_eq_true_eq, Bool.and_eq_true]
  refine if_congr Iff.rfl rfl ?_
  split <;> rfl

/-- The value that a write stores: an enumerated one as it is, any other within its range. -/
def SettingRow.limit (row : SettingRow) (x : Int) : Int := if row.enumerated then x else clamp x row.lo row.hi

theorem State.writeSetting_of_named (s : State) (p : Port) {id : Nat} {n : SettingName} (x : Int)
    (hn : settingNamed id = some n) :
    s.writeSetting p id x =
      if (settingRow n).enumerated = true ∧ (x < (settingRow n).lo ∨ (settingRow n).hi < x) then ⟨s, .badArgument, []⟩
      else s.writeValue p id n ((settingRow n).limit x) (decide ((settingRow n).limit x ≠ x)) := by
  unfold State.writeSetting SettingRow.limit
  rw [hn]
  dsimp only
  cases (settingRow n).enumerated with
  | true => simp [State.refuse]
  | false => simp

theorem State.writeSetting_of_unnamed (s : State) (p : Port) {id : Nat} (x : Int) (hn : settingNamed id = none) :
    s.writeSetting p id x = ⟨s, .badArgument, []⟩ := by
  unfold State.writeSetting
  rw [hn]
  rfl

/-- Settles O53, by the name of the identifier and the steps of the judgement. -/
theorem settingsAreReadAndWritten : Obligations.SettingsAreReadAndWritten := by
  intro p id value s req u write written r read
  have hwrite : ∀ n, settingNamed id.toNat = some n → u.writeSetting p id.toNat value.toInt = write n := by
    intro n hn
    rw [u.writeSetting_of_named p value.toInt hn]
    refine if_congr Iff.rfl rfl ?_
    rw [State.writeValue_eq, SettingName.ofMap_eq, State.remapRefused_eq]
    refine if_congr Iff.rfl rfl ?_
    rw [State.storeSetting_eq, SettingName.ofMap_eq, SettingName.ofAlpha_eq]
    unfold SettingRow.limit clamp Rectifier.alphaReformed
    rfl
  have hwritten : (if p = .s then u.writeSetting p id.toNat value.toInt else u.refuse .notPermitted) = written := by
    cases p with
    | c => rfl
    | s =>
      change u.writeSetting .s id.toNat value.toInt = match settingNamed id.toNat with
        | none => ⟨u, .badArgument, []⟩
        | some n => write n
      cases hn : settingNamed id.toNat with
      | none => exact u.writeSetting_of_unnamed _ _ hn
      | some n => exact hwrite n hn
  have hread : r.readSetting id.toNat = read := rfl
  exact ⟨hwritten ▸ rfl, hread ▸ rfl⟩

end Sys2Proof.Machine

end


section
/-! PROOFS. The coordination map is formed again (08). -/

-- One text with the model: proofs elaborated side by side would need more threads than the check's memory holds.
set_option Elab.async false

namespace Sys2Proof.Machine

/-! ## The effective coordination map (08 R144) -/

/-- The link, index and role of a mapping. -/
def Mapping.triple (m : Mapping) : Link × Index × Role := (m.link, m.index, m.role)

theorem Mapping.samePair_eq (a b : Mapping) : a.samePair b = decide (a.link = b.link ∧ a.index = b.index) :=
  (Bool.decide_and _ _).symm

theorem Settings.mapping_of_names {st : Settings} {f : Feeder} {m : Mapping} (h : st.names f = some m) :
    st.mapping f = if (feeders.any fun g => decide (g < f) && (st.names g).any m.samePair) then none else some m := by
  unfold Settings.mapping
  rw [h]

theorem Settings.mapping_of_names_none {st : Settings} {f : Feeder} (h : st.names f = none) : st.mapping f = none := by
  unfold Settings.mapping
  rw [h]

/-! ## A section whose mapping changed (07 R130) -/

theorem State.clearedSection_eq (s : State) (f : Feeder) (new : Option Mapping) :
    s.clearedSection f new =
      let gone := s.sections[f].peers.foldl (fun t y => t.append .blockRemoved (.sec f) .removedPeer y.toNat)
        (s.modSection f fun x => { x with mapping := new, peers := [], overflow := false, summary := none })
      if s.sections[f].overflow then gone.append .blockRemoved (.sec f) .removedPeerOverflow 0 else gone := by
  unfold State.clearedSection
  rw [State.overflowEntry_eq]
  cases s.sections[f].overflow <;> rfl

theorem State.remapSection_of_keeps {s : State} {f : Feeder} {new : Option Mapping}
    (h : keepsPlace s.sections[f].mapping new = true) :
    s.remapSection f new = s.modSection f fun x => { x with mapping := new } := by
  rw [State.remapSection_eq, if_pos h]

theorem State.remapSection_of_moves {s : State} {f : Feeder} {new : Option Mapping}
    (h : keepsPlace s.sections[f].mapping new = false) :
    s.remapSection f new =
      (s.clearedSection f new).setCoordination f (if new.isSome then .uncoordinated else .single) s.allCoordinated := by
  rw [State.remapSection_eq, h]
  rfl

/-- The sections move by the settings that stood before the first of them moved. -/
theorem State.remapSections_of_settings (fs : List Feeder) {t : State} {st : Settings} (h : t.settings = st) :
    State.remapSections fs t =
      fs.foldl (fun t g => if t.sections[g].mapping = st.mapping g then t else t.remapSection g (st.mapping g)) t := by
  unfold State.remapSections
  induction fs generalizing t with
  | nil => rfl
  | cons f fs ih =>
    have hstep : (if t.sections[f].mapping = t.settings.mapping f then t
        else t.remapSection f (t.settings.mapping f)).settings = st := by
      split
      · exact h
      · exact (t.remapSection_settings f _).trans h
    rw [List.foldl_cons, List.foldl_cons, ih hstep, h]

/-! ## Lost indices and gained links (08 R145) -/

/-- The indices of both links, in the order in which they are dropped. -/
def linkPlaces : List (Link × Index) :=
  [(.u, 0), (.u, 1), (.u, 2), (.u, 3), (.d, 0), (.d, 1), (.d, 2), (.d, 3)]

theorem State.dropLost_eq (s before : State) :
    s.dropLost before = linkPlaces.foldl (fun t k =>
      if before.feederAt k.1 k.2 ≠ none ∧ t.feederAt k.1 k.2 ≠ before.feederAt k.1 k.2 then t.dropIndex k.1 k.2
      else t) s := by
  unfold State.dropLost
  simp only [Option.isSome_iff_ne_none]
  rfl

theorem State.gainedLinks_eq (s before : State) :
    s.gainedLinks before = linkNames.foldl (fun t l =>
      if t.mappedTo l = true ∧ before.mappedTo l = false ∧ (t.links.get l).state ≠ .up then t.onset (linkLatch l)
      else t) s := by
  unfold State.gainedLinks State.onsetIf
  simp only [Bool.and_eq_true, Bool.not_eq_true', bne_iff_ne, and_assoc]

/-- Settles O54. -/
theorem coordinationMapIsFormedAgain : Obligations.CoordinationMapIsFormedAgain := by
  intro s f new x st named earlier standing put gone marked pairs moved dropped gained told lost
  have hnamed (g : Feeder) : named g = (st.names g).map Mapping.triple := by
    unfold Settings.names
    dsimp only [named]
    split
    · rfl
    · split <;> rfl
  refine ⟨?_, ?_, ?_⟩
  · cases hf : st.names f with
    | none =>
      rw [Settings.mapping_of_names_none hf, hnamed, hf]
      exact (ite_self _).symm
    | some m =>
      rw [Settings.mapping_of_names hf, hnamed, hf]
      have hearlier : (feeders.any fun g => decide (g < f) && (st.names g).any m.samePair) = earlier := by
        refine congrArg feeders.any (funext fun g => congrArg (decide (g < f) && ·) ?_)
        rw [hnamed, hnamed, hf]
        cases st.names g with
        | none => rfl
        | some m' => exact m.samePair_eq m'
      rw [hearlier]
      cases earlier <;> rfl
  · have hmarked : s.clearedSection f new = marked := s.clearedSection_eq f new
    cases hx : x.mapping with
    | none =>
      cases new with
      | none => exact State.remapSection_of_keeps (by rw [show s.sections[f].mapping = none from hx]; rfl)
      | some b =>
        rw [State.remapSection_of_moves (by rw [show s.sections[f].mapping = none from hx]; rfl), hmarked]
        rfl
    | some a =>
      cases new with
      | none =>
        rw [State.remapSection_of_moves (by rw [show s.sections[f].mapping = some a from hx]; rfl), hmarked]
        rfl
      | some b =>
        rw [State.remapSection_eq, show s.sections[f].mapping = some a from hx, hmarked]
        refine if_congr ?_ rfl rfl
        rw [show keepsPlace (some a) (some b) = a.samePair b from rfl, Mapping.samePair_eq, decide_eq_true_eq]
  · have hmoved : State.remapSections feeders s = moved := State.remapSections_of_settings feeders rfl
    have hdropped (t : State) (k : Link × Index) :
        (if s.feederAt k.1 k.2 ≠ none ∧ t.feederAt k.1 k.2 ≠ s.feederAt k.1 k.2 then t.dropIndex k.1 k.2 else t) =
          dropped t k := by
      rfl
    have htold : ((State.remapSections feeders s).dropLost s).gainedLinks s = told := by
      rw [hmoved, State.dropLost_eq, State.gainedLinks_eq]
      simp only [hdropped]
      rfl
    rw [State.remap_eq, htold]
    rfl

end Sys2Proof.Machine

end


section
/-! PROOFS. The items that the read commands answer (10, 11 R187). -/

-- One text with the model: proofs elaborated side by side would need more threads than the check's memory holds.
set_option Elab.async false

namespace Sys2Proof.Machine

/-! ## The bytes of the items (11 R187) -/

theorem byte_eq (n : Nat) : byte n = [BitVec.ofNat 8 n] := rfl

theorem flag_eq (x : Bool) : flag x = [if x then 1 else 0] := rfl

theorem optional_map_ite {α : Type} (width : Nat) (c : Prop) [Decidable c] (x : Option α) (g : α → List Byte) :
    optional width ((if c then x else none).map g) = optional width (if c then x.map g else none) := by
  split <;> rfl

/-- A value of two names is a flag: 0 for the first, 1 for the second. -/
theorem byte_measState (x : MeasState) : byte x.number = [if x = .blind then 1 else 0] := by cases x <;> rfl

theorem byte_measState' (x : MeasState) : byte x.number = [if x = .live then 0 else 1] := by cases x <;> rfl

theorem byte_role (x : Role) : byte (roleNumber x) = [if x = .follow then 1 else 0] := by cases x <;> rfl

theorem byte_selector (x : Selector) : byte (selectorNumber x) = [if x = .remotePos then 1 else 0] := by cases x <;> rfl

theorem byte_authority (s : State) :
    byte (portNumber s.authority) = [if s.inputs.selector = .remotePos then 1 else 0] := by
  rw [State.authority_eq]
  cases s.inputs.selector <;> rfl

theorem byte_authority' (s : State) :
    byte (portNumber s.authority) = [if s.inputs.selector = .localPos then 0 else 1] := by
  rw [State.authority_eq]
  cases s.inputs.selector <;> rfl

theorem LocalBlock.bytes_eq : LocalBlock.bytes = fun x =>
    [if x.origin = .s then 0 else 1] ++ bytesTag x.tag ++ [if x.active then 0 else 1] := by
  funext ⟨origin, tag, active⟩
  cases origin <;> cases active <;> rfl

theorem ShiftEnd.bytes_eq : ShiftEnd.bytes = fun x =>
    match x with
    | .stopped => [0, 0, 0]
    | .blocked z => [1, 1, BitVec.ofNat 8 z.number] := by
  funext x
  cases x <;> rfl

theorem byte_frame (x : Frame) :
    byte x.number = [match x with
      | .status => 0
      | .tripReq _ _ => 1
      | .tripAck _ _ => 2
      | .restored _ => 3
      | .lockout _ => 4
      | .blockAdd _ _ => 5
      | .blockDel _ _ => 6
      | .blockSet _ => 7] := by
  cases x <;> rfl

theorem byte_mappedRole (m : Option Mapping) :
    byte (roleNumber ((m.map Mapping.role).getD .lead)) = [if m.any fun m => m.role = .follow then 1 else 0] := by
  cases m with
  | none => rfl
  | some m => cases hrole : m.role <;> simp [hrole, roleNumber, byte]

theorem State.lockedOut_eq (s : State) :
    s.lockedOut = (s.rect.state = .blocked && (s.rect.cause = some .busFault || s.rect.cause = some .breakerFail
      || s.rect.cause = some .gateFault || s.rect.cause = some .eoff)) := by
  unfold State.lockedOut
  rw [any_lockout_eq]

theorem slotItems_eq (x : Slot) (seq : Stamp) :
    byte x.state.number ++ optional 5 (if x.state = .free then none
        else some (byte (feederNo x.feeder) ++ bytesStamp seq)) =
      if x.state = .free then [0, 0, 0, 0, 0, 0, 0]
      else [if x.state = .filling then 1 else 2, 1, BitVec.ofNat 8 (x.feeder.val + 1)] ++ bytesStamp seq := by
  obtain ⟨state⟩ := x
  cases state <;> rfl

theorem byte_demands (bus breaker : Bool) :
    byte ((if bus then 1 else 0) + if breaker then 2 else 0) =
      [(if bus then 1 else 0) + if breaker then 2 else 0] := by
  cases bus <;> cases breaker <;> rfl

theorem State.slotBytes_eq (s : State) :
    s.slotBytes = fun k =>
      if s.slots[k].state = .free then [0, 0, 0, 0, 0, 0, 0]
      else [if s.slots[k].state = .filling then 1 else 2, 1, BitVec.ofNat 8 (s.slots[k].feeder.val + 1)]
        ++ bytesStamp (((s.journal.entries.find? fun e => decide (e.ref = some k)).map Entry.seq).getD 0) :=
  funext fun k => slotItems_eq s.slots[k] _

/-! ## Replies with items (10 R173, R176) -/

/-- Items are answered, or their absence is refused with BAD_ARGUMENT. -/
def State.answerItems (s : State) (items : Option (List Byte)) : Reply :=
  match items with
  | some d => s.answer d
  | none => s.refuse .badArgument

theorem State.forFeeder_answer (s : State) (n : Byte) (data : Feeder → List Byte) :
    (s.forFeeder n fun f => s.answer (data f)) = s.answerItems ((feederOf n).map data) := by
  unfold State.forFeeder
  cases feederOf n <;> rfl

theorem State.readLink_eq (s : State) (n : Byte) :
    s.readLink n =
      s.answerItems (if n = 1 then some (s.linkBytes .u) else if n = 2 then some (s.linkBytes .d) else none) := by
  unfold State.readLink linkOf
  by_cases hu : n = 1
  · rw [if_pos hu, if_pos hu]
    rfl
  · rw [if_neg hu, if_neg hu]
    by_cases hd : n = 2
    · rw [if_pos hd, if_pos hd]
      rfl
    · rw [if_neg hd, if_neg hd]
      rfl

/-! ## The condition word (10 R179) -/

theorem mem_latches (b : Latch) : b ∈ latches := by cases b <;> simp [latches]

theorem Latch.bits_apart : ∀ x ∈ latches, ∀ b ∈ latches, x ≠ b → x.bit &&& b.bit = 0 := by decide

theorem foldl_or_hides {b : Latch} (pres : Latch → Bool) (hb : pres b = false) (bs : List Latch) (w : BitVec 16) :
    (bs.foldl (fun w x => if pres x then w ||| x.bit else w) w) &&& b.bit = w &&& b.bit := by
  induction bs generalizing w with
  | nil => rfl
  | cons x rest ih =>
    rw [List.foldl_cons, ih]
    split
    · next hx =>
      have hne : x ≠ b := fun heq => by rw [heq, hb] at hx; exact Bool.false_ne_true hx
      rw [BitVec.and_or_distrib_right, Latch.bits_apart x (mem_latches x) b (mem_latches b) hne]
      exact BitVec.or_zero
    · rfl

/-- The word of the conditions shows a latch's bit just where its condition is present. -/
theorem State.presentWord_bit (s : State) (b : Latch) :
    s.presentWord &&& b.bit = if s.present b then b.bit else 0 := by
  cases hb : s.present b with
  | true => exact s.presentWord_shows hb
  | false => exact (foldl_or_hides s.present hb latches 0).trans BitVec.zero_and

theorem State.modPort_modPort (s : State) (p : Port) (g h : PortUnit → PortUnit) :
    (s.modPort p g).modPort p h = s.modPort p fun u => h (g u) := by
  cases p <;> rfl

/-- Settles O52. -/
theorem readsAnswerTheirItems : Obligations.ReadsAnswerTheirItems := by
  intro p n b s done channel entry u word left num bit one two ms sec disposition result status feeder rectifier link
    journal
  have hdone {c : Instr} {req : List Byte} {judge : State → Reply} {data : State → Option (List Byte)}
      (hreq : requestOf c = req) (h : ∀ t, judge t = t.answerItems (data t)) :
      (.next (s.serve p c judge) : Answer) = .next (done req data) := by
    subst hreq
    unfold State.serve
    rw [h]
    dsimp only [done]
    cases data (s.receiveRequest p (requestOf c)) <;> rfl
  have hstatus (t : State) : t.statusBytes p = status t := by
    unfold State.statusBytes LineTest.bytes State.feederSummary timerMs lockBytes Section.holdsLocal
      Section.holdsPeer State.acTrip feederNo
    dsimp only [status, num, bit, one, ms]
    simp only [byte_measState, byte_selector, byte_authority]
    simp only [byte_eq, flag_eq, Bool.or_assoc, Option.map_map, Function.comp_def, optional_map_ite,
      List.append_assoc, List.cons_append, List.nil_append, List.map_eq_flatMap, decide_eq_true_eq]
    rfl
  have hresult (x : LineResult) : x.bytes = result x := by cases x <;> rfl
  have hmeasurements (t : State) : t.measurementBytes =
      t.sample.channels.toList.flatMap channel ++ [if t.sample.state = .live then 0 else 1, BitVec.ofNat 8 t.sample.resume]
        ++ t.sample.failed.toList.map (fun x => if x then 1 else 0) ++ bytes16 t.sample.gapCount
        ++ bytes16 t.sample.setErrors ++ feeders.flatMap fun f => bytes32 (t.disc[f].fine / 65536) := by
    unfold State.measurementBytes
    simp only [byte_measState']
    simp only [byte_eq, List.map_eq_flatMap,
      List.append_assoc, List.cons_append, List.nil_append]
    rfl
  have hfeeder (t : State) (f : Feeder) : t.feederBytes f = feeder t f := by
    unfold State.feederBytes State.contextBytes Disc.bytes LastResult.bytes LineTest.place timerMs timerSec
      lockBytes tripBytes State.closeCoil State.tripCoil State.contactor
    dsimp only [feeder, num, bit, one, two, ms, sec]
    simp only [byte_eq, flag_eq, Option.map_map, Function.comp_def, hresult,
      List.append_assoc, List.cons_append, List.nil_append]
    rfl
  have hsection (t : State) (f : Feeder) : t.sectionBytes f =
      mappingBytes t.sections[f].mapping ++ [BitVec.ofNat 8 t.sections[f].coord.number, if t.inputs.earth[f] then 1 else 0]
        ++ listed (t.sections[f].blocks.map entry) ++ listed (t.sections[f].peers.map bytesTag)
        ++ [if t.sections[f].overflow then 1 else 0]
        ++ listed ((t.announced f).map bytesTag)
        ++ optional 2 (t.sections[f].summary.map fun y => [if y.closed then 1 else 0, if y.earthed then 1 else 0])
        ++ [BitVec.ofNat 8 (t.interlock f false).number, BitVec.ofNat 8 (t.interlock f true).number,
          if t.inputs.selector = .localPos then 0 else 1, if t.startHold then 1 else 0] := by
    unfold State.sectionBytes
    simp only [byte_authority', LocalBlock.bytes_eq]
    simp only [byte_eq, flag_eq, List.append_assoc, List.cons_append, List.nil_append]
    rfl
  have hrectifier (t : State) : t.rectBytes = rectifier t := by
    unfold State.rectBytes GateTest.bytes Settings.alphaLimitBytes timerMs
    dsimp only [rectifier, num, bit, one, two, ms]
    simp only [byte_demands, State.lockedOut_eq, ShiftEnd.bytes_eq]
    simp only [byte_eq, flag_eq, Option.map_map, Function.comp_def, List.map_eq_flatMap,
      List.append_assoc, List.cons_append, List.nil_append]
    rfl
  have htracker (t : State) : t.trackerBytes =
      [BitVec.ofNat 8 t.tracker.state.number] ++ optional 4 (t.tracker.period.map bytes32)
        ++ optional 4 (t.tracker.prev.map bytesStamp)
        ++ [BitVec.ofNat 8 t.tracker.good, BitVec.ofNat 8 t.tracker.holdover] ++ bytes16 t.tracker.glitches
        ++ bytes16 t.tracker.ranges ++ bytes16 t.tracker.slips ++ bytesStamp t.time.stamp := by
    unfold State.trackerBytes
    simp only [byte_eq, List.append_assoc, List.cons_append, List.nil_append]
  have hlink (t : State) (l : Link) : t.linkBytes l = link t l := by
    unfold State.linkBytes State.indexBytes Outstanding.bytes summaryBytes timerMs
    dsimp only [link, num, bit, ms]
    simp only [byte_mappedRole]
    simp only [byte_role, byte_frame]
    simp only [byte_eq, flag_eq, decide_eq_true_eq, List.append_assoc, List.cons_append, List.nil_append]
    rfl
  have hjournal (t : State) : t.journalBytes = journal t := by
    unfold State.journalBytes State.readerBytes
    dsimp only [journal, num, bit]
    simp only [State.slotBytes_eq, flag_eq, List.append_assoc, List.cons_append, List.nil_append]
  clear_value done status feeder rectifier link journal
  refine ⟨?_, ?_, ?_, ?_, ?_, ?_, ?_, ?_, ?_⟩
  · refine hdone (c := .readStatus p) (req := [0x01]) rfl fun t => ?_
    exact congrArg t.answer (hstatus t)
  · refine hdone (c := .readMeasurements p) (req := [0x03]) rfl fun t => ?_
    exact congrArg t.answer (hmeasurements t)
  · refine hdone (c := .readFeeder p n) (req := [0x04, n]) rfl fun t => ?_
    rw [State.forFeeder_answer, funext (hfeeder t)]
  · refine hdone (c := .readSection p n) (req := [0x05, n]) rfl fun t => ?_
    rw [State.forFeeder_answer, funext (hsection t)]
  · refine hdone (c := .readRectifier p) (req := [0x06]) rfl fun t => ?_
    exact congrArg t.answer (hrectifier t)
  · refine hdone (c := .readTracker p) (req := [0x07]) rfl fun t => ?_
    exact congrArg t.answer (htracker t)
  · refine hdone (c := .readLink p n) (req := [0x08, n]) rfl fun t => ?_
    rw [State.readLink_eq, hlink, hlink]
  · refine hdone (c := .readJournalState p) (req := [0x0A]) rfl fun t => ?_
    exact congrArg t.answer (hjournal t)
  · refine ⟨word &&& u.presentWord, congrArg Host.Outcome.next (u.modPort_modPort p
      (fun x => { x with latches := x.latches &&& u.presentWord })
      fun x => { x with phase := .response, buffer := [0x02], response := 0 :: tagBytes word }), ?_⟩
    rw [BitVec.and_assoc, State.presentWord_bit]
    split
    · rfl
    · exact BitVec.and_zero

end Sys2Proof.Machine

end


section
/-! PROOFS. Requests and peer frames are read back from their bytes (08, 11). -/

-- One text with the model: proofs elaborated side by side would need more threads than the check's memory holds.
set_option Elab.async false

namespace Sys2Proof

/-! ## The fields of a frame (11.4, R188) -/

theorem extract_append_tag (t : Tag) : t.extractLsb' 8 8 ++ t.extractLsb' 0 8 = t := by
  rw [BitVec.extractLsb'_append_extractLsb'_eq_extractLsb' (by rfl)]
  exact BitVec.extractLsb'_eq_self

theorem tagBytes_append (hi lo : Byte) : tagBytes (hi ++ lo) = [hi, lo] := by
  unfold tagBytes
  rw [BitVec.extractLsb'_append_eq_left, BitVec.extractLsb'_append_eq_right]

theorem indexOf_eq_some_iff {a : Byte} {i : Index} : indexOf a = some i ↔ a = BitVec.ofNat 8 i.val := by
  unfold indexOf
  constructor
  · intro h
    split at h
    · cases h
      exact (BitVec.ofNat_toNat 8 a).symm ▸ (BitVec.setWidth_eq a).symm
    · cases h
  · rintro rfl
    have hval : (BitVec.ofNat 8 i.val).toNat = i.val := Nat.mod_eq_of_lt (by omega)
    rw [dif_pos (hval.trans_lt i.isLt)]
    exact congrArg some (Fin.ext hval)

theorem tagsOf_tagBytes (ts : List Tag) : tagsOf (ts.map tagBytes).flatten = some ts := by
  induction ts with
  | nil => rfl
  | cons t ts ih =>
    change (tagsOf (ts.map tagBytes).flatten).map (fun ts => (t.extractLsb' 8 8 ++ t.extractLsb' 0 8) :: ts) = _
    rw [ih, extract_append_tag]
    rfl

theorem eq_of_tagsOf {bytes : List Byte} {ts : List Tag} (h : tagsOf bytes = some ts) :
    bytes = (ts.map tagBytes).flatten := by
  induction bytes using tagsOf.induct generalizing ts with
  | case1 => cases h; rfl
  | case2 hi lo rest ih =>
    obtain ⟨ts', hrest, rfl⟩ := Option.map_eq_some_iff.mp h
    rw [List.map_cons, List.flatten_cons, tagBytes_append, ← ih hrest]
    rfl
  | case3 b => cases h

theorem tagsOf_eq_some_iff {bytes : List Byte} {ts : List Tag} :
    tagsOf bytes = some ts ↔ bytes = (ts.map tagBytes).flatten :=
  ⟨eq_of_tagsOf, fun h => h ▸ tagsOf_tagBytes ts⟩

theorem Summary.byte_summaryOf (b : Byte) : (summaryOf b).byte = b &&& 0x7F := by
  revert b
  decide

theorem summaryOf_masked (b : Byte) : summaryOf (b &&& 0x7F) = summaryOf b := by
  revert b
  decide

theorem Summary.summaryOf_byte {x : Summary} (h : x.wellFormed = true) : summaryOf x.byte = x := by
  obtain ⟨configured, role, closed, earthed, count⟩ := x
  have hcount : count ≤ 4 := of_decide_eq_true h
  interval_cases count <;> cases configured <;> cases role <;> cases closed <;> cases earthed <;> rfl

theorem Summary.byte_masked {x : Summary} (h : x.wellFormed = true) : x.byte &&& 0x7F = x.byte := by
  rw [← Summary.byte_summaryOf, Summary.summaryOf_byte h]

/-! ## The kind and payload of a frame (08 R135, 11.4) -/

/-- The kind and payload spell the frame: byte by byte, but for bit 7 of a summary byte. -/
def PeerFrame.SpelledBy (x : PeerFrame) (body : List Byte) : Prop :=
  match x with
  | .status _ => body.head? = some 0x01 ∧ body.tail.map (fun b => b &&& 0x7F) = x.body.tail
  | .tripReq _ _ | .tripAck _ _ | .restored _ | .lockout _ | .blockAdd _ _ | .blockDel _ _ | .blockSet _ _ =>
    body = x.body

theorem indexOf_val (i : Index) : indexOf (BitVec.ofNat 8 i.val) = some i := indexOf_eq_some_iff.mpr rfl

theorem eq_of_map_indexOf {a : Byte} {g : Index → PeerFrame} {x : PeerFrame} (h : (indexOf a).map g = some x) :
    ∃ i : Index, a = BitVec.ofNat 8 i.val ∧ g i = x := by
  obtain ⟨i, hi, hx⟩ := Option.map_eq_some_iff.mp h
  exact ⟨i, indexOf_eq_some_iff.mp hi, hx⟩

theorem PeerFrame.spelled_of_parse_two {kind a : Byte} {x : PeerFrame} (h : parseBody [kind, a] = some x) :
    x.wellFormed = true ∧ x.SpelledBy [kind, a] := by
  unfold parseBody at h
  dsimp only at h
  split_ifs at h with hkind hkind
  · obtain ⟨i, rfl, rfl⟩ := eq_of_map_indexOf h
    rw [hkind]
    exact ⟨rfl, rfl⟩
  · obtain ⟨i, rfl, rfl⟩ := eq_of_map_indexOf h
    rw [hkind]
    exact ⟨rfl, rfl⟩

theorem PeerFrame.spelled_of_parse_three {kind a b : Byte} {x : PeerFrame} (h : parseBody [kind, a, b] = some x) :
    x.wellFormed = true ∧ x.SpelledBy [kind, a, b] := by
  unfold parseBody at h
  dsimp only at h
  split_ifs at h with hkind hkind hkind
  · obtain ⟨i, rfl, rfl⟩ := eq_of_map_indexOf h
    rw [hkind]
    exact ⟨rfl, rfl⟩
  · obtain ⟨i, rfl, rfl⟩ := eq_of_map_indexOf h
    rw [hkind]
    exact ⟨rfl, rfl⟩
  · obtain ⟨i, rfl, rfl⟩ := eq_of_map_indexOf h
    obtain ⟨hkind, hcount⟩ := hkind
    rw [hkind, hcount]
    exact ⟨rfl, rfl⟩

theorem PeerFrame.status_spelledBy (a b c d : Byte) :
    (PeerFrame.status #v[summaryOf a, summaryOf b, summaryOf c, summaryOf d]).SpelledBy [0x01, a, b, c, d] := by
  refine ⟨rfl, ?_⟩
  change [a &&& 0x7F, b &&& 0x7F, c &&& 0x7F, d &&& 0x7F] =
    [(summaryOf a).byte, (summaryOf b).byte, (summaryOf c).byte, (summaryOf d).byte]
  simp only [Summary.byte_summaryOf]

theorem PeerFrame.blockAdd_body (i : Index) (hi lo : Byte) :
    (PeerFrame.blockAdd i (hi ++ lo)).body = [0x06, BitVec.ofNat 8 i.val, hi, lo] := by
  change [0x06, BitVec.ofNat 8 i.val] ++ tagBytes (hi ++ lo) = _
  rw [tagBytes_append]
  rfl

theorem PeerFrame.blockDel_body (i : Index) (hi lo : Byte) :
    (PeerFrame.blockDel i (hi ++ lo)).body = [0x07, BitVec.ofNat 8 i.val, hi, lo] := by
  change [0x07, BitVec.ofNat 8 i.val] ++ tagBytes (hi ++ lo) = _
  rw [tagBytes_append]
  rfl

theorem PeerFrame.blockSet_body {i : Index} {ts : List Tag} {bytes : List Byte} {n : Byte}
    (hts : tagsOf bytes = some ts) (hlen : ts.length = n.toNat) :
    (PeerFrame.blockSet i ts).body = 0x08 :: BitVec.ofNat 8 i.val :: n :: bytes := by
  change [0x08, BitVec.ofNat 8 i.val, BitVec.ofNat 8 ts.length] ++ (ts.map tagBytes).flatten = _
  rw [← eq_of_tagsOf hts, hlen, BitVec.ofNat_toNat, BitVec.setWidth_eq]
  rfl

theorem PeerFrame.spelled_of_parse_long {kind a b c : Byte} {rest : List Byte} {x : PeerFrame}
    (h : parseBody (kind :: a :: b :: c :: rest) = some x) :
    x.wellFormed = true ∧ x.SpelledBy (kind :: a :: b :: c :: rest) := by
  unfold parseBody at h
  dsimp only at h
  split_ifs at h with hkind hkind hkind hkind
  · split at h
    · next d =>
      split_ifs at h with hwf
      cases h
      exact ⟨hwf, hkind ▸ PeerFrame.status_spelledBy a b c d⟩
    · cases h
  · split at h
    · obtain ⟨i, rfl, rfl⟩ := eq_of_map_indexOf h
      exact ⟨rfl, hkind ▸ (PeerFrame.blockAdd_body i b c).symm⟩
    · cases h
  · split at h
    · obtain ⟨i, rfl, rfl⟩ := eq_of_map_indexOf h
      exact ⟨rfl, hkind ▸ (PeerFrame.blockDel_body i b c).symm⟩
    · cases h
  · split at h
    · next i ts hi hts =>
      obtain ⟨hkind, hcount⟩ := hkind
      split_ifs at h with hlen
      cases h
      rw [hkind, indexOf_eq_some_iff.mp hi]
      exact ⟨decide_eq_true (hlen.trans_le hcount), (PeerFrame.blockSet_body hts hlen).symm⟩
    · cases h

theorem PeerFrame.spelled_of_parse {body : List Byte} {x : PeerFrame} (h : parseBody body = some x) :
    x.wellFormed = true ∧ x.SpelledBy body := by
  match body, h with
  | [], h => cases h
  | [_], h => cases h
  | [_, _], h => exact PeerFrame.spelled_of_parse_two h
  | [_, _, _], h => exact PeerFrame.spelled_of_parse_three h
  | _ :: _ :: _ :: _ :: _, h => exact PeerFrame.spelled_of_parse_long h

theorem map_summaryOf_of_masked {bytes : List Byte} {xs : List Summary} (hwf : xs.all Summary.wellFormed = true)
    (h : bytes.map (fun b => b &&& 0x7F) = xs.map Summary.byte) : bytes.map summaryOf = xs := by
  calc bytes.map summaryOf
    _ = (bytes.map fun b => b &&& 0x7F).map summaryOf := by
      rw [List.map_map]
      exact List.map_congr_left fun b _ => (summaryOf_masked b).symm
    _ = (xs.map Summary.byte).map summaryOf := by rw [h]
    _ = xs := by
      rw [List.map_map]
      exact (List.map_congr_left fun x hx => Summary.summaryOf_byte (List.all_eq_true.mp hwf x hx)).trans (List.map_id' xs)

theorem parseBody_status {a b c d : Byte} {v : Vector Summary 4} (hwf : (PeerFrame.status v).wellFormed = true)
    (hv : [summaryOf a, summaryOf b, summaryOf c, summaryOf d] = v.toList) :
    parseBody [0x01, a, b, c, d] = some (.status v) := by
  have heq : #v[summaryOf a, summaryOf b, summaryOf c, summaryOf d] = v := Vector.toList_inj.mp hv
  change (if (PeerFrame.status #v[summaryOf a, summaryOf b, summaryOf c, summaryOf d]).wellFormed then
    some (PeerFrame.status #v[summaryOf a, summaryOf b, summaryOf c, summaryOf d]) else none) = _
  rw [heq, if_pos hwf]

theorem parseBody_blockSet {i : Index} {ts : List Tag} (h : ts.length ≤ 5) :
    parseBody (PeerFrame.blockSet i ts).body = some (.blockSet i ts) := by
  cases ts with
  | nil =>
    change (indexOf (BitVec.ofNat 8 i.val)).map (fun i => PeerFrame.blockSet i []) = _
    rw [indexOf_val]
    rfl
  | cons t ts =>
    have hcount : (BitVec.ofNat 8 (t :: ts).length).toNat = (t :: ts).length := Nat.mod_eq_of_lt (by omega)
    change (if (0x08 : Byte) = 0x08 ∧ (BitVec.ofNat 8 (t :: ts).length).toNat ≤ 5 then
      match indexOf (BitVec.ofNat 8 i.val), tagsOf ((t :: ts).map tagBytes).flatten with
      | some i, some us =>
        if us.length = (BitVec.ofNat 8 (t :: ts).length).toNat then some (PeerFrame.blockSet i us) else none
      | _, _ => none
      else none) = _
    rw [if_pos ⟨rfl, hcount.trans_le h⟩, indexOf_val, tagsOf_tagBytes]
    dsimp only
    rw [if_pos hcount.symm]

theorem parse_of_spelled {body : List Byte} {x : PeerFrame} (hwf : x.wellFormed = true) (h : x.SpelledBy body) :
    parseBody body = some x := by
  cases x with
  | status v =>
    obtain ⟨hkind, hrest⟩ := h
    obtain ⟨rest, rfl⟩ : ∃ rest, body = 0x01 :: rest := ⟨body.tail, (List.cons_head?_tail hkind).symm⟩
    have hmap : rest.map summaryOf = v.toList := map_summaryOf_of_masked hwf hrest
    have hlen : rest.length = 4 := by rw [← List.length_map summaryOf, hmap, Vector.length_toList]
    obtain ⟨a, b, c, d, rfl⟩ := List.length_eq_four.mp hlen
    exact parseBody_status hwf hmap
  | tripReq i id => cases h; change (indexOf _).map _ = _; rw [indexOf_val]; rfl
  | tripAck i id => cases h; change (indexOf _).map _ = _; rw [indexOf_val]; rfl
  | restored i => cases h; change (indexOf _).map _ = _; rw [indexOf_val]; rfl
  | lockout i => cases h; change (indexOf _).map _ = _; rw [indexOf_val]; rfl
  | blockAdd i t =>
    cases h
    change (indexOf _).map (fun i => PeerFrame.blockAdd i (t.extractLsb' 8 8 ++ t.extractLsb' 0 8)) = _
    rw [indexOf_val, extract_append_tag]
    rfl
  | blockDel i t =>
    cases h
    change (indexOf _).map (fun i => PeerFrame.blockDel i (t.extractLsb' 8 8 ++ t.extractLsb' 0 8)) = _
    rw [indexOf_val, extract_append_tag]
    rfl
  | blockSet i ts => cases h; exact parseBody_blockSet (of_decide_eq_true hwf)

/-- A frame's kind and payload, parsed: what spells a frame is read as that frame, and nothing else is. -/
theorem parseBody_eq_some_iff {body : List Byte} {x : PeerFrame} :
    parseBody body = some x ↔ x.wellFormed = true ∧ x.SpelledBy body :=
  ⟨PeerFrame.spelled_of_parse, fun ⟨hwf, h⟩ => parse_of_spelled hwf h⟩

end Sys2Proof

end


section
/-! PROOFS. Receptions are judged, and requests are decoded (08 R135, R136; 10 R173; 11.3). -/

-- One text with the model: proofs elaborated side by side would need more threads than the check's memory holds.
set_option Elab.async false

namespace Sys2Proof

/-! ## Receptions (08 R135, R136) -/

/-- A reception is a frame where no line error came with it, its check word agrees, and its kind and payload parse. -/
theorem judgeFrame_eq_some_iff {rx : Reception} {x : PeerFrame} :
    judgeFrame rx = some x ↔
      rx.lineError = false ∧ ∃ body, rx.bytes = withCheck body ∧ parseBody body = some x := by
  unfold judgeFrame
  constructor
  · intro h
    dsimp only at h
    split_ifs at h with hbad hcheck
    obtain ⟨hline, -⟩ := not_or.mp hbad
    exact ⟨Bool.eq_false_iff.mpr hline, _, hcheck, h⟩
  · rintro ⟨hline, body, hbytes, hparse⟩
    have hlen : rx.bytes.length = body.length + 2 := by rw [hbytes]; exact List.length_append
    have hbody : rx.bytes.take (rx.bytes.length - 2) = body := by
      rw [hlen, hbytes]
      exact List.take_left
    have hgood : ¬ (rx.lineError = true ∨ rx.bytes.length < 2) :=
      not_or.mpr ⟨Bool.eq_false_iff.mp hline, by omega⟩
    rw [if_neg hgood, hbody]
    dsimp only
    rw [if_pos hbytes, hparse]

theorem PeerFrame.spelledBy_body {x : PeerFrame} (h : x.wellFormed = true) : x.SpelledBy x.body := by
  cases x with
  | status v =>
    refine ⟨rfl, ?_⟩
    change (v.toList.map Summary.byte).map _ = v.toList.map Summary.byte
    rw [List.map_map]
    exact List.map_congr_left fun x hx => Summary.byte_masked (List.all_eq_true.mp h x hx)
  | tripReq i id => rfl
  | tripAck i id => rfl
  | restored i => rfl
  | lockout i => rfl
  | blockAdd i t => rfl
  | blockDel i t => rfl
  | blockSet i ts => rfl

theorem judgeFrame_encodeFrame {x : PeerFrame} (h : x.wellFormed = true) :
    judgeFrame ⟨false, encodeFrame x⟩ = some x :=
  judgeFrame_eq_some_iff.mpr ⟨rfl, x.body, rfl, parseBody_eq_some_iff.mpr ⟨h, PeerFrame.spelledBy_body h⟩⟩

/-! ## Requests (10 R173, 11.3) -/

theorem requestLength_unknown (code : Byte) : knownCodes.contains code = false → requestLength code = 1 := by
  revert code
  decide

/-- A code that names no command is a whole request, answered UNKNOWN_COMMAND (10 R174). -/
theorem decodeCode_unknown (p : Port) (code : Byte) :
    knownCodes.contains code = false → decodeCode p code = .unknownCommand p code := by
  cases p with
  | s => revert code; decide
  | c => revert code; decide

theorem extract_append_word (v : BitVec 32) :
    v.extractLsb' 24 8 ++ v.extractLsb' 16 8 ++ v.extractLsb' 8 8 ++ v.extractLsb' 0 8 = v := by
  rw [BitVec.extractLsb'_append_extractLsb'_eq_extractLsb' (by rfl),
    BitVec.extractLsb'_append_extractLsb'_eq_extractLsb' (by rfl),
    BitVec.extractLsb'_append_extractLsb'_eq_extractLsb' (by rfl)]
  exact BitVec.extractLsb'_eq_self

theorem decodeRequest_encodeRequest {c : Instr} {p : Port} {bytes : List Byte} (hwf : c.wellFormed = true)
    (h : encodeRequest c = some (p, bytes)) :
    decodeRequest p bytes = some c ∧ bytes.length = requestLength (bytes.headD 0) := by
  cases c with
  | unknownCommand q code =>
    cases h
    have hcode : knownCodes.contains code = false := (Bool.not_eq_true' _).mp hwf
    have hlen := requestLength_unknown code hcode
    refine ⟨?_, hlen.symm⟩
    change (if requestLength code = 1 then some (decodeCode p code) else none) = _
    rw [if_pos hlen, decodeCode_unknown p code hcode]
  | resetLockoutFeeder q target =>
    cases h
    refine ⟨?_, rfl⟩
    change some (if target = 0 then _ else _) = _
    rw [if_neg (bne_iff_ne.mp hwf)]
  | placeBlock q sec tag openFirst =>
    cases h
    refine ⟨?_, rfl⟩
    change some (Instr.placeBlock p sec (tag.extractLsb' 8 8 ++ tag.extractLsb' 0 8) openFirst) = _
    rw [extract_append_tag]
  | removeBlock q sec tag =>
    cases h
    refine ⟨?_, rfl⟩
    change some (Instr.removeBlock p sec (tag.extractLsb' 8 8 ++ tag.extractLsb' 0 8)) = _
    rw [extract_append_tag]
  | writeSetting q id value =>
    cases h
    refine ⟨?_, rfl⟩
    exact congrArg (fun v => some (Instr.writeSetting p id v)) (extract_append_word value)
  | _ => cases h <;> exact ⟨rfl, rfl⟩

/-- Settles O55: `judgeFrame_eq_some_iff` says what a reception's judgement rests on. -/
theorem requestsAndFramesDecodeAsEncoded : Obligations.RequestsAndFramesDecodeAsEncoded := by
  refine ⟨fun x hwf => ⟨judgeFrame_encodeFrame hwf, fun l => ⟨?_, rfl⟩⟩, fun rx x => ?_,
    fun c p bytes => decodeRequest_encodeRequest⟩
  · unfold decodeFrame
    rw [judgeFrame_encodeFrame hwf]
  · rw [judgeFrame_eq_some_iff]
    refine and_congr_right fun _ => ?_
    constructor
    · rintro ⟨body, hbytes, hparse⟩
      obtain ⟨hwf, hspelled⟩ := parseBody_eq_some_iff.mp hparse
      exact ⟨hwf, body, hbytes, hspelled⟩
    · rintro ⟨hwf, body, hbytes, hspelled⟩
      exact ⟨body, hbytes, parseBody_eq_some_iff.mpr ⟨hwf, hspelled⟩⟩

end Sys2Proof

end
